-- ==== Sys2Proof/Word.lean ====
section
/-! DEFINITION. The words of the machine and the small closed types that every other file
uses: Exception levels and Security states (R33, glossary), and the direction of an access. -/

namespace Sys2Proof

/-- One byte of memory. -/
abbrev Byte := BitVec 8

/-- A 64-bit register or virtual address (R31, R32, R52). -/
abbrev Word := BitVec 64

/-- The storage of a System register: 64 bits, or 128 for the 128-bit registers (R30). -/
abbrev DWord := BitVec 128

/-- The Exception levels, a higher number being more privileged (glossary). -/
inductive EL where
  | EL0 | EL1 | EL2 | EL3
  deriving DecidableEq, Repr

/-- The number of an Exception level, as CurrentEL and M[3:2] report it (R24, R25). -/
def EL.num : EL → Nat
  | .EL0 => 0
  | .EL1 => 1
  | .EL2 => 2
  | .EL3 => 3

/-- The two-bit field that names an Exception level (R24, R25). -/
def EL.bits (e : EL) : BitVec 2 := BitVec.ofNat 2 e.num

/-- The level a two-bit field names. -/
def EL.ofBits (b : BitVec 2) : EL :=
  if b = 0#2 then .EL0 else if b = 1#2 then .EL1 else if b = 2#2 then .EL2 else .EL3

/-- The Security states (glossary); an input of R33 and R101. -/
inductive SecState where
  | nonSecure | secure | realm | root
  deriving DecidableEq, Repr

/-- The direction of a register or memory access. -/
inductive Dir where
  | read | write
  deriving DecidableEq, Repr

end Sys2Proof
end

