-- ==== Sys2Proof/Syntax.lean ====
section
/-! DEFINITION. The syntax: the five-field name of a System register in an instruction word
(R71, R72), the register names of the spec (R29, R77, R81), the SYS operation fields (R73) and
the instruction type, one constructor per row of spec/opcode_table.json in the table's order. -/

namespace Sys2Proof

/-- The register operand of MRS, MSR, MRRS and MSRR as the word holds it (R71, R72):
op0 is 2 + o0. -/
structure SysEnc where
  o0 : BitVec 1
  op1 : BitVec 3
  crn : BitVec 4
  crm : BitVec 4
  op2 : BitVec 3
  deriving DecidableEq, Repr

/-- The tuple (op0, op1, CRn, CRm, op2) as one 16-bit key, op0 uppermost. -/
def SysEnc.key (e : SysEnc) : BitVec 16 :=
  1#1 ++ e.o0 ++ e.op1 ++ e.crn ++ e.crm ++ e.op2

/-- The operation operand of AT and TLBI as the word holds it (R73); op0 is 1. -/
structure SysOp where
  op1 : BitVec 3
  crn : BitVec 4
  crm : BitVec 4
  op2 : BitVec 3
  deriving DecidableEq, Repr

/-- The part of a register name before its Exception level suffix. `other` stands for an
encoding to which the spec gives no name (R77 leaves the map open). -/
inductive RegBase where
  | SPSR | ELR | ESR | FAR | TFSR | CNTHCTL | CNTKCTL | SP
  | SPSR_irq | SPSR_abt | SPSR_und | SPSR_fiq | CurrentEL | SCTLR | CPTR | ID_AA64MMFR4
  | PAN | UAO | VTTBR | VSTTBR | VTCR | VSTCR | VMPIDR | CNTVOFF
  | HCR | HSTR | VPIDR | TPIDR | HCRX | VNCR | CPACR | CONTEXTIDR
  | ACTLR | TCR | AFSR0 | AFSR1 | MAIR | AMAIR | MDSCR | CNTV_CVAL
  | CNTV_CTL | CNTP_CVAL | CNTP_CTL | SCXTNUM | HDFGRTR2 | CNTPOFF | HDFGWTR2 | HFGRTR
  | HFGWTR | HFGITR | HDFGRTR | HDFGWTR | ZCR | HAFGRTR | SMCR | SMPRIMAP
  | TTBR0 | TTBR1 | VBAR | TCR2 | SCTLR2 | MAIR2 | AMAIR2 | PIRE0
  | PIR | POR | S2PIR | S2POR | HFGRTR2 | HFGWTR2 | PFAR | HFGITR2
  | ICH_LR | ICH_AP0R | ICH_AP1R | ICH_HCR | ICH_VMCR | VDISR | VSESR | PMBLIMITR
  | PMBPTR | PMBSR | PMSCR | PMSEVFR | PMSICR | PMSIRR | PMSLATFR | PMSNEVFR
  | PMSDSFR | TRFCR | TRCITECR | GCSPR | GCSCR | BRBCR | MPAM1 | MPAMHCR
  | MPAMVPMV | MPAMVPM0 | MPAMVPM1 | MPAMVPM2 | MPAMVPM3 | MPAMVPM4 | MPAMVPM5 | MPAMVPM6
  | MPAMVPM7 | AMEVCNTVOFF0 | AMEVCNTVOFF1 | SCTLRMASK | CPACRMASK | SCTLR2MASK | TCRMASK | TCR2MASK
  | ACTLRMASK | SPMACCESSR | MPAMBW1 | MPAMBWCAP | MECIDR | MECID_A0 | MECID_A1 | MECID_P0
  | MECID_P1 | VMECID_A | VMECID_P | MDCR | PAR | other
  deriving DecidableEq, Repr

/-- The part of a register name after the last underscore, on which the name patterns of R29
are stated; `none` for a name without one (CurrentEL, PAN, UAO, SPSR_irq, ...). -/
inductive RegSuffix where
  | none | EL0 | EL1 | EL2 | EL3 | EL12 | EL02
  deriving DecidableEq, Repr

/-- A System or Special-purpose register name (R29). `idx` is the n of an indexed family
(R82), the encoding key of a register without a name (`RegBase.other`), and 0 otherwise. -/
structure RegName where
  base : RegBase
  sfx : RegSuffix
  idx : BitVec 16 := 0
  deriving DecidableEq, Repr

/-- The fourteen address translation operations of R78. -/
inductive AtOp where
  | S1E1R | S1E1W | S1E0R | S1E0W | S1E1RP | S1E1WP | S1E1A
  | S1E2R | S1E2W | S12E1R | S12E1W | S12E0R | S12E0W | S1E2A
  deriving DecidableEq, Repr

/-- The three exception return instructions of R74. -/
inductive EretKind where
  | eret | eretaa | eretab
  deriving DecidableEq, Repr

/-- The instructions of spec/opcode_table.json, one constructor per row. -/
inductive Instr where
  | mrs (r : SysEnc) (rt : BitVec 5)
  | msr (r : SysEnc) (rt : BitVec 5)
  | mrrs (r : SysEnc) (rt : BitVec 5)
  | msrr (r : SysEnc) (rt : BitVec 5)
  | at_S1E1R (rt : BitVec 5)
  | at_S1E1W (rt : BitVec 5)
  | at_S1E0R (rt : BitVec 5)
  | at_S1E0W (rt : BitVec 5)
  | at_S1E1RP (rt : BitVec 5)
  | at_S1E1WP (rt : BitVec 5)
  | at_S1E1A (rt : BitVec 5)
  | at_S1E2R (rt : BitVec 5)
  | at_S1E2W (rt : BitVec 5)
  | at_S12E1R (rt : BitVec 5)
  | at_S12E1W (rt : BitVec 5)
  | at_S12E0R (rt : BitVec 5)
  | at_S12E0W (rt : BitVec 5)
  | at_S1E2A (rt : BitVec 5)
  | tlbi_IPAS2E1IS (rt : BitVec 5)
  | tlbi_RIPAS2E1IS (rt : BitVec 5)
  | tlbi_IPAS2LE1IS (rt : BitVec 5)
  | tlbi_RIPAS2LE1IS (rt : BitVec 5)
  | tlbi_ALLE2OS (rt : BitVec 5)
  | tlbi_VAE2OS (rt : BitVec 5)
  | tlbi_ALLE1OS (rt : BitVec 5)
  | tlbi_VALE2OS (rt : BitVec 5)
  | tlbi_VMALLS12E1OS (rt : BitVec 5)
  | tlbi_RVAE2IS (rt : BitVec 5)
  | tlbi_RVALE2IS (rt : BitVec 5)
  | tlbi_ALLE2IS (rt : BitVec 5)
  | tlbi_VAE2IS (rt : BitVec 5)
  | tlbi_ALLE1IS (rt : BitVec 5)
  | tlbi_VALE2IS (rt : BitVec 5)
  | tlbi_VMALLS12E1IS (rt : BitVec 5)
  | tlbi_IPAS2E1OS (rt : BitVec 5)
  | tlbi_IPAS2E1 (rt : BitVec 5)
  | tlbi_RIPAS2E1 (rt : BitVec 5)
  | tlbi_RIPAS2E1OS (rt : BitVec 5)
  | tlbi_IPAS2LE1OS (rt : BitVec 5)
  | tlbi_IPAS2LE1 (rt : BitVec 5)
  | tlbi_RIPAS2LE1 (rt : BitVec 5)
  | tlbi_RIPAS2LE1OS (rt : BitVec 5)
  | tlbi_RVAE2OS (rt : BitVec 5)
  | tlbi_RVALE2OS (rt : BitVec 5)
  | tlbi_RVAE2 (rt : BitVec 5)
  | tlbi_RVALE2 (rt : BitVec 5)
  | tlbi_ALLE2 (rt : BitVec 5)
  | tlbi_VAE2 (rt : BitVec 5)
  | tlbi_ALLE1 (rt : BitVec 5)
  | tlbi_VALE2 (rt : BitVec 5)
  | tlbi_VMALLS12E1 (rt : BitVec 5)
  | tlbi_IPAS2E1ISNXS (rt : BitVec 5)
  | tlbi_RIPAS2E1ISNXS (rt : BitVec 5)
  | tlbi_IPAS2LE1ISNXS (rt : BitVec 5)
  | tlbi_RIPAS2LE1ISNXS (rt : BitVec 5)
  | tlbi_ALLE2OSNXS (rt : BitVec 5)
  | tlbi_VAE2OSNXS (rt : BitVec 5)
  | tlbi_ALLE1OSNXS (rt : BitVec 5)
  | tlbi_VALE2OSNXS (rt : BitVec 5)
  | tlbi_VMALLS12E1OSNXS (rt : BitVec 5)
  | tlbi_RVAE2ISNXS (rt : BitVec 5)
  | tlbi_RVALE2ISNXS (rt : BitVec 5)
  | tlbi_ALLE2ISNXS (rt : BitVec 5)
  | tlbi_VAE2ISNXS (rt : BitVec 5)
  | tlbi_ALLE1ISNXS (rt : BitVec 5)
  | tlbi_VALE2ISNXS (rt : BitVec 5)
  | tlbi_VMALLS12E1ISNXS (rt : BitVec 5)
  | tlbi_IPAS2E1OSNXS (rt : BitVec 5)
  | tlbi_IPAS2E1NXS (rt : BitVec 5)
  | tlbi_RIPAS2E1NXS (rt : BitVec 5)
  | tlbi_RIPAS2E1OSNXS (rt : BitVec 5)
  | tlbi_IPAS2LE1OSNXS (rt : BitVec 5)
  | tlbi_IPAS2LE1NXS (rt : BitVec 5)
  | tlbi_RIPAS2LE1NXS (rt : BitVec 5)
  | tlbi_RIPAS2LE1OSNXS (rt : BitVec 5)
  | tlbi_RVAE2OSNXS (rt : BitVec 5)
  | tlbi_RVALE2OSNXS (rt : BitVec 5)
  | tlbi_RVAE2NXS (rt : BitVec 5)
  | tlbi_RVALE2NXS (rt : BitVec 5)
  | tlbi_ALLE2NXS (rt : BitVec 5)
  | tlbi_VAE2NXS (rt : BitVec 5)
  | tlbi_ALLE1NXS (rt : BitVec 5)
  | tlbi_VALE2NXS (rt : BitVec 5)
  | tlbi_VMALLS12E1NXS (rt : BitVec 5)
  | eret
  | eretaa
  | eretab
  | smc (imm16 : BitVec 16)
  deriving DecidableEq, Repr

end Sys2Proof
end

