-- ==== Sys2Proof/Config.lean ====
section
/-! DEFINITION. What an implementation fixes (00_scope.md section 5) as one record of plain data,
the parts of the base architecture that the spec makes parameters of the model (the oracles of
R101 and R163, the translation of R208, watchpoints and pending instruction-side exceptions of
R214 and R228), and the one free value that stands for everything the spec leaves open. -/

namespace Sys2Proof

/-- FREE VALUE (assumption 6). The n-th draw of 64 bits the spec does not state. It has no body:
no proof can know any of its bits, so what is shown holds whatever they are. -/
opaque Config.freeWord : Nat → BitVec 64

/-- The CONSTRAINED UNPREDICTABLE choice of R128. -/
inductive CuNV0NV1 where
  | asNV11 | asNV00 | trapOnly
  deriving DecidableEq, Repr

/-- The CONSTRAINED UNPREDICTABLE choice of R61 for memory that is not Write-back Cacheable. -/
inductive Cu128NonWB where
  | atomic64 | atomic128
  deriving DecidableEq, Repr

/-- The reading of the table row at offset 0x298 (90_conflicts.md C3). -/
inductive Row298 where
  | literal | bothEL2
  deriving DecidableEq, Repr

/-- What an instruction asks the oracle `OtherTrap` about (R163). DESIGN CHOICE (assumption 15): a
register access is asked about by register and direction alone, so MRRS and MSRR are answered as MRS and
MSR are, with the class and the syndrome layout of the 64-bit form (R166 states neither); and ERET, ERETAA
and ERETAB are asked about with one key, so a trap of one is a trap of all three, each with its own ISS, and
a trap of ERETAA or ERETAB alone cannot be expressed. -/
inductive TrapKey where
  | reg (r : RegName) (dir : Dir)
  | sys (op : SysOp)
  | eret
  | smc
  deriving DecidableEq, Repr

/-- One trap of the base architecture, an entry of the oracle `OtherTrap` (R163): while the bit
`control` names is 1 (always, if it names none), the access `key` made at `fromEL` is trapped to
`target` with class `ec`; `iss` none means the syndrome the instruction itself reports. -/
structure OtherTrap where
  control : Option (RegName × Nat)
  key : TrapKey
  fromEL : EL
  target : EL
  ec : BitVec 6
  iss : Option (BitVec 25)
  deriving DecidableEq, Repr

/-- The implementation parameters of 00_scope.md section 5 (and the features that
spec/opcode_table.json names), with the oracles over register names as lists. -/
structure Config where
  /-- FEAT_NV (R1, R2). -/
  haveNV : Bool
  /-- FEAT_NV2 (R3). -/
  haveNV2 : Bool
  /-- FEAT_E2H0. R12 only permits something where it is absent, and the E2H0 field of R13 says whether
  that was taken, so no definition reads it. -/
  haveE2H0 : Bool
  /-- FEAT_ATS1A (R142). -/
  haveATS1A : Bool
  /-- FEAT_PAN2 (R140). -/
  havePAN2 : Bool
  /-- FEAT_PAuth (R74, R121). -/
  havePAuth : Bool
  /-- FEAT_SYSREG128 (R72). -/
  haveSYSREG128 : Bool
  /-- FEAT_TLBIOS, FEAT_TLBIRANGE and FEAT_XS (R79). -/
  haveTLBIOS : Bool
  haveTLBIRANGE : Bool
  haveXS : Bool
  /-- EL3 is implemented (R119). -/
  haveEL3 : Bool
  /-- EL2 is implemented and enabled in the current Security state (92 D21). -/
  el2Enabled : Bool
  /-- External aborts are configured to be taken to EL3 (R211). -/
  eaToEL3 : Bool
  /-- ID_AA64MMFR4_EL1, read-only: E2H0 is bits [27:24] (R13), NV_frac bits [23:20] (R14). -/
  idAA64MMFR4 : BitVec 64
  cuNV0NV1 : CuNV0NV1
  cu128NonWB : Cu128NonWB
  row298 : Row298
  /-- BADDR_HI (R20): VNCR_EL2.BADDR is bits [baddrHi:12]. -/
  baddrHi : Nat
  /-- SysRegName (R77): encodings the implementation names, looked up before the default table. -/
  regNames : List (SysEnc × RegName)
  /-- `Implemented` (R161): named registers that are absent, with them the members of an indexed
  family beyond its `IndexRange` (R82). -/
  notImplemented : List RegName
  /-- `Implemented` (R161): registers without a name in the spec that are present. -/
  alsoImplemented : List RegName
  /-- `Is128` (R62), as far as the constraint of R62 lets a register be one (`isReg128`). -/
  is128 : List RegName
  /-- Registers whose write is UNDEFINED (R101), besides the identification registers. -/
  readOnly : List RegName
  /-- `UndefAtEL2` (R101). -/
  undefAtEL2 : List (RegName × Dir × SecState)
  /-- `EL3TrapHigher` (R101). -/
  el3Traps : List (RegName × Dir)
  /-- `OtherTrap` (R163). -/
  otherTraps : List OtherTrap
  deriving DecidableEq, Repr

/-- ID_AA64MMFR4_EL1.E2H0 (R13). -/
def Config.e2h0 (c : Config) : BitVec 4 := c.idAA64MMFR4.extractLsb' 24 4

/-- ID_AA64MMFR4_EL1.NV_frac (R14). -/
def Config.nvFrac (c : Config) : BitVec 4 := c.idAA64MMFR4.extractLsb' 20 4

/-- Whether the implementation has an Exception level. -/
def Config.hasEL (c : Config) : EL → Bool
  | .EL0 => true
  | .EL1 => true
  | .EL2 => c.el2Enabled
  | .EL3 => c.haveEL3

/-- A translation regime (R40). -/
inductive Regime where
  | el10 | el2 | el20
  deriving DecidableEq, Repr

/-- What the base architecture's table walk finds for one page of virtual addresses (R208): a
fault with its status code, or an output page with the level, the Table descriptors met on the
way, the Block or Page descriptor, whether the memory is Inner and Outer Write-back Cacheable
(R61) and whether an access to it meets a synchronous External abort (R211). DESIGN CHOICE (assumption
7): R40 gives no physical address size, no granule and no number of levels; output pages are 4 KB units of
64-bit physical addresses, and a level has two bits. -/
inductive WalkResult where
  | fault (fsc : BitVec 6)
  | page (out : BitVec 52) (level : BitVec 2) (tables : List (BitVec 64)) (leaf : BitVec 64)
      (writeBack : Bool) (externalAbort : Bool)
  deriving DecidableEq, Repr

/-- One entry of `Base.Translate` (R208): what the walk of `regime` finds for virtual addresses
whose bits [63:12] are `vpage`. -/
structure Mapping where
  regime : Regime
  vpage : BitVec 52
  result : WalkResult
  deriving DecidableEq, Repr

/-- A watchpoint register pair as far as R227 and R228 read it: the bytes it watches, the
levels and directions it is programmed to match, and whether it is linked to a context-aware
breakpoint that matches CONTEXTIDR_EL1 or VMID. `matchEL1` decides nothing here: the only data
accesses of the spec are transformed ones, which are EL2 accesses (R227). -/
structure Watchpoint where
  base : BitVec 64
  size : Nat
  matchEL1 : Bool
  matchEL2 : Bool
  loads : Bool
  stores : Bool
  linkedContext : Bool
  deriving DecidableEq, Repr

/-- A pending instruction-side exception of the base architecture (R214: Breakpoint, Software
Step): due when the instruction at `addr` is about to be executed at `el`. -/
structure InstrEvent where
  addr : BitVec 64
  el : EL
  target : EL
  ec : BitVec 6
  iss : BitVec 25
  deriving DecidableEq, Repr

/-- What the other units of the PE see of one instruction (R53 to R61, R226, R227, R233 to R235). -/
inductive Event where
  /-- The instruction counts as executed at this level for PMU event filtering, trace, profiling
  and breakpoint checks (R226). -/
  | executed (el : EL)
  /-- One single-copy atomic memory access: address, size in bytes, direction, the level and
  regime it is made at, and whether it has Acquire or Release semantics (R53 to R61). -/
  | access (va : BitVec 64) (size : Nat) (dir : Dir) (asEL : EL) (regime : Regime)
      (acquireRelease : Bool)
  /-- A Memory-read or Memory-write operation of the Performance Monitors, filtered as executed
  at this level (R226, R233). -/
  | pmuMemory (dir : Dir) (el : EL)
  /-- A Load/Store record of the Statistical Profiling Unit, with the address if it is
  recorded (R227, R234, R235). -/
  | profiled (va : Option (BitVec 64))
  deriving DecidableEq, Repr

end Sys2Proof
end

