-- ==== Sys2Proof/Machine/State.lean ====
section
/-! DEFINITION. The state of the machine as plain data, its faults and refusals, and the state
after reset. The source states no reset value for anything (R36, R260): every value below is the
model's, named in assumptions 1 to 4, and no statement rests on one. -/

namespace Sys2Proof.Machine

/-- Physical memory: the bytes that differ from what an unlisted address reads as, addresses
strictly rising. -/
abbrev Memory := List Host.Cell

/-- The System and Special-purpose registers by `regKey`, in the same form: a register that is
not listed holds zero. -/
abbrev RegStore := List (Nat × DWord)

/-- Process state (R24 to R26, R33, R213, R214). -/
structure PState where
  /-- The current Exception level (R33). -/
  el : EL
  /-- The stack pointer selection: true for ELxh (R25, R213). -/
  sp : Bool
  /-- The interrupt masks D, A, I, F (R213). -/
  d : Bool
  a : Bool
  i : Bool
  f : Bool
  /-- The condition flags N, Z, C, V; no instruction of the model writes them but a return (R31). -/
  nzcv : BitVec 4
  /-- Privileged Access Never (R26, R49). -/
  pan : Bool
  /-- User Access Override (R26, R50). -/
  uao : Bool
  /-- Illegal Execution state and Software Step (R214). -/
  il : Bool
  ss : Bool
  /-- Fields R213 names as the base architecture's. -/
  ssbs : Bool
  tco : Bool
  dit : Bool
  btype : BitVec 2
  deriving DecidableEq, Repr

/-- The debug conditions of R27 and the debug resources of R226 to R230. DESIGN CHOICE (assumption 54): no
instruction and no exception entry changes any of them but `halted`, neither an MSR of MDSCR_EL1 or MDCR_EL2
nor a change of PSTATE.D; R27 takes the four conditions as inputs and does not say that they stay. -/
structure Debug where
  /-- EDSCR.HDE (R27). -/
  hde : Bool
  /-- "Halting is allowed" (R27, R229). -/
  haltingAllowed : Bool
  /-- "OS Lock is unlocked" (R27). -/
  osLockUnlocked : Bool
  /-- "Debug exceptions are enabled at EL2" (R27, R230). -/
  debugExceptionsEL2 : Bool
  /-- The PE has halted: Debug state, entered by R229. -/
  halted : Bool
  /-- The watchpoint registers (R227, R228). -/
  watchpoints : List Watchpoint
  /-- Pending instruction-side exceptions, breakpoints among them (R214, R226). -/
  instrEvents : List InstrEvent
  deriving DecidableEq, Repr

/-- The inputs of the Statistical Profiling Unit that R234 and R235 read. DESIGN CHOICE (assumption 55): no
step changes them, so over a run the unit selects every instruction or none; the rules do not say how
selection varies. -/
structure Profiling where
  /-- The unit selects the instruction being executed. -/
  selects : Bool
  /-- Statistical Profiling is enabled at EL2. -/
  enabledEL2 : Bool
  deriving DecidableEq, Repr

/-- The machine. -/
structure State where
  /-- The implementation (00_scope.md section 5); no instruction changes it. -/
  cfg : Config
  /-- X0 to X30 (R31). -/
  gpr : Vector Word 31
  /-- The program counter (R32). -/
  pc : Word
  pstate : PState
  /-- The current Security state (R33); no step changes it (assumption 50). -/
  sec : SecState
  /-- System and Special-purpose registers (R30). -/
  regs : RegStore
  /-- Memory, the VNCR page in it (R34). -/
  mem : Memory
  /-- What `Base.Translate` answers (R208); a page that is not listed maps to itself. -/
  mappings : List Mapping
  /-- The hidden set `TLBHeldNV` of (nv, nv1) pairs (R35). -/
  tlbHeldNV : List (Bool × Bool)
  dbg : Debug
  profiling : Profiling
  /-- What the other units saw of the last instruction (R226 to R235). -/
  events : List Event
  /-- MODEL's own: how many free values have been drawn (assumption 6). -/
  draw : Nat
  deriving DecidableEq, Repr

/-- The machine stops with a fault. -/
inductive Fault where
  /-- Raised by `step` when the PE is in Debug state, which R229 enters: what Debug state is
  lies outside the source. Safe: the machine stops where the hardware waits for a debugger. -/
  | debugState
  deriving DecidableEq, Repr

/-- The model gives the step no meaning. -/
inductive Refusal where
  /-- Raised by an arm of `exec` whose instruction has no meaning yet; no arm does. Safe. -/
  | notModelled (mnemonic : String)
  /-- Raised by `step` for a word that is no row of the opcode table (00_scope.md section 7,
  item 3: a model refuses every other instruction). Safe. -/
  | notAdmitted
  /-- Raised by `step` for MRRS or MSRR with an odd Rt (R72). Safe. -/
  | oddPair
  /-- Raised by MRRS and MSRR for an access that `NV` or `NV1` would trap or redirect in the
  64-bit form: R130 makes a model refuse `Unspecified`. Safe. -/
  | unspecified128
  /-- Raised by `step` at EL0 while nv and nv1 are 1: R51 makes a model refuse it. Safe. -/
  | el0UnderNV1
  deriving DecidableEq, Repr

/-- What a meaning answers. -/
abbrev Res := Host.Outcome State Fault Refusal

/-- The virtual memory control registers that HCR_EL2.TVM guards (PRESUMED, assumption 15). -/
def tvmRegisters : List RegName :=
  [⟨.SCTLR, .EL1, 0⟩, ⟨.TTBR0, .EL1, 0⟩, ⟨.TTBR1, .EL1, 0⟩, ⟨.TCR, .EL1, 0⟩, ⟨.ESR, .EL1, 0⟩,
    ⟨.FAR, .EL1, 0⟩, ⟨.AFSR0, .EL1, 0⟩, ⟨.AFSR1, .EL1, 0⟩, ⟨.MAIR, .EL1, 0⟩,
    ⟨.AMAIR, .EL1, 0⟩, ⟨.CONTEXTIDR, .EL1, 0⟩]

/-- A trap from EL1 to EL2 of one register access, enabled by one control bit (EC 0x18). -/
def trapToEL2When (control : RegName) (bit : Nat) (r : RegName) (dir : Dir) : OtherTrap :=
  { control := some (control, bit), key := .reg r dir, fromEL := .EL1, target := .EL2,
    ec := 0x18#6, iss := none }

/-- The traps the rules name as examples of `OtherTrap`: HCR_EL2.TVM and CPTR_EL2.TCPAC (R18,
R19, R263) and MDCR_EL2.TDA (vector B6b.21), with their bits (assumption 15). DESIGN CHOICE: R19 gives
bit 31 for TCPAC when HCR_EL2.E2H is 0 and says nothing of E2H 1; bit 31 is taken for both. -/
def resetOtherTraps : List OtherTrap :=
  tvmRegisters.map (fun r => trapToEL2When ⟨.HCR, .EL2, 0⟩ 26 r .write) ++
    [trapToEL2When ⟨.CPTR, .EL2, 0⟩ 31 ⟨.CPACR, .EL1, 0⟩ .read,
      trapToEL2When ⟨.CPTR, .EL2, 0⟩ 31 ⟨.CPACR, .EL1, 0⟩ .write,
      trapToEL2When ⟨.MDCR, .EL2, 0⟩ 9 ⟨.MDSCR, .EL1, 0⟩ .read,
      trapToEL2When ⟨.MDCR, .EL2, 0⟩ 9 ⟨.MDSCR, .EL1, 0⟩ .write]

/-- One implementation, for the state after reset (DESIGN CHOICE, assumption 1): every feature
but EL3, and the defaults of 00_scope.md section 5 where it names one. -/
def resetConfig : Config where
  haveNV := true
  haveNV2 := true
  haveE2H0 := true
  haveATS1A := true
  havePAN2 := true
  havePAuth := true
  haveSYSREG128 := true
  haveTLBIOS := true
  haveTLBIRANGE := true
  haveXS := true
  haveEL3 := false
  el2Enabled := true
  eaToEL3 := false
  idAA64MMFR4 := 0#64
  cuNV0NV1 := .asNV11
  cu128NonWB := .atomic64
  row298 := .literal
  baddrHi := 56
  regNames := []
  notImplemented := []
  alsoImplemented := []
  is128 := [⟨.VTTBR, .EL2, 0⟩, ⟨.TTBR0, .EL1, 0⟩, ⟨.TTBR0, .EL12, 0⟩, ⟨.TTBR1, .EL1, 0⟩,
    ⟨.TTBR1, .EL12, 0⟩]
  readOnly := []
  undefAtEL2 := []
  el3Traps := []
  otherTraps := resetOtherTraps

/-- Process state after reset (assumption 3): EL2h with every interrupt masked. -/
def PState.reset : PState where
  el := .EL2
  sp := true
  d := true
  a := true
  i := true
  f := true
  nzcv := 0#4
  pan := false
  uao := false
  il := false
  ss := false
  ssbs := false
  tco := false
  dit := false
  btype := 0#2

/-- Debug after reset (assumption 3): EDSCR.HDE 0, OS Lock locked, nothing programmed. -/
def Debug.reset : Debug where
  hde := false
  haltingAllowed := false
  osLockUnlocked := false
  debugExceptionsEL2 := false
  halted := false
  watchpoints := []
  instrEvents := []

/-- The machine right after reset (assumptions 1 to 4): R36 leaves every value unspecified. DESIGN CHOICE
(assumption 7): `mappings` is empty, so every page of every regime maps to itself then; `tlbHeldNV` is empty
(assumption 9), and so are `events` (assumption 33) and the count of draws (assumption 6). -/
def State.reset : State where
  cfg := resetConfig
  gpr := Vector.replicate 31 0#64
  pc := 0#64
  pstate := PState.reset
  sec := .nonSecure
  regs := []
  mem := []
  mappings := []
  tlbHeldNV := []
  dbg := Debug.reset
  profiling := { selects := false, enabledEL2 := false }
  events := []
  draw := 0

end Sys2Proof.Machine
end

