-- ==== Sys2Proof/Machine/Flags.lean ====
section
/-! DEFINITION. Process state as an SPSR image, and back. No instruction of the spec computes a
condition flag (R31: "None of the instructions in scope writes a condition flag"), so the flags
move only between PSTATE and an SPSR. -/

namespace Sys2Proof.Machine

/-- The image of process state with this field M[3:2] (R25, R26; the other positions are
assumption 19): N Z C V 31..28, TCO 25, DIT 24, UAO 23, PAN 22, SS 21, IL 20, SSBS 12,
BTYPE 11..10, D A I F 9..6, M[4] 0, M[3:2], M[1] 0, M[0] the stack pointer selection. -/
def PState.imageWith (p : PState) (m32 : BitVec 2) : Word :=
  0#32 ++ p.nzcv ++ 0#2 ++ BitVec.ofBool p.tco ++ BitVec.ofBool p.dit ++ BitVec.ofBool p.uao ++
    BitVec.ofBool p.pan ++ BitVec.ofBool p.ss ++ BitVec.ofBool p.il ++ 0#7 ++
    BitVec.ofBool p.ssbs ++ p.btype ++ BitVec.ofBool p.d ++ BitVec.ofBool p.a ++
    BitVec.ofBool p.i ++ BitVec.ofBool p.f ++ 0#2 ++ m32 ++ 0#1 ++ BitVec.ofBool p.sp

/-- The image of process state: M[3:2] is the Exception level (R25). -/
def PState.image (p : PState) : Word := p.imageWith p.el.bits

/-- The fields of process state an SPSR image restores, at this level and stack selection. -/
def PState.ofImage (v : Word) (el : EL) (sp il : Bool) : PState where
  el := el
  sp := sp
  d := v.getLsbD 9
  a := v.getLsbD 8
  i := v.getLsbD 7
  f := v.getLsbD 6
  nzcv := v.extractLsb' 28 4
  pan := v.getLsbD 22
  uao := v.getLsbD 23
  il := il
  ss := v.getLsbD 21
  ssbs := v.getLsbD 12
  tco := v.getLsbD 25
  dit := v.getLsbD 24
  btype := v.extractLsb' 10 2

end Sys2Proof.Machine
end

