-- ==== Sys2Proof/Machine/RegTable.lean ====
section
/-! DEFINITION. The register name space: the map from encodings to names (R77), the name
classes of R29, the storage a name stands for (R30), and Table D8-120 (R80 to R83). -/

namespace Sys2Proof.Machine

/-- The key of the tuple (op0, op1, CRn, CRm, op2), as `SysEnc.key` builds it. -/
def encKey (op0 op1 crn crm op2 : Nat) : BitVec 16 :=
  BitVec.ofNat 16 ((((op0 * 8 + op1) * 16 + crn) * 16 + crm) * 8 + op2)

/-- R77, the registers other rules name. -/
def namesOfRules : List (BitVec 16 × RegName) :=
  [ (encKey 3 4 4 0 0, ⟨.SPSR, .EL2, 0⟩),
    (encKey 3 4 4 0 1, ⟨.ELR, .EL2, 0⟩),
    (encKey 3 4 5 2 0, ⟨.ESR, .EL2, 0⟩),
    (encKey 3 4 6 0 0, ⟨.FAR, .EL2, 0⟩),
    (encKey 3 4 5 6 0, ⟨.TFSR, .EL2, 0⟩),
    (encKey 3 4 14 1 0, ⟨.CNTHCTL, .EL2, 0⟩),
    (encKey 3 5 14 1 0, ⟨.CNTKCTL, .EL12, 0⟩),
    (encKey 3 0 14 1 0, ⟨.CNTKCTL, .EL1, 0⟩),
    (encKey 3 6 4 1 0, ⟨.SP, .EL2, 0⟩),
    (encKey 3 4 4 3 0, ⟨.SPSR_irq, .none, 0⟩),
    (encKey 3 4 4 3 1, ⟨.SPSR_abt, .none, 0⟩),
    (encKey 3 4 4 3 2, ⟨.SPSR_und, .none, 0⟩),
    (encKey 3 4 4 3 3, ⟨.SPSR_fiq, .none, 0⟩),
    (encKey 3 0 4 2 2, ⟨.CurrentEL, .none, 0⟩),
    (encKey 3 4 1 0 0, ⟨.SCTLR, .EL2, 0⟩),
    (encKey 3 4 1 1 2, ⟨.CPTR, .EL2, 0⟩),
    (encKey 3 0 0 7 4, ⟨.ID_AA64MMFR4, .EL1, 0⟩),
    (encKey 3 0 4 2 3, ⟨.PAN, .none, 0⟩),
    (encKey 3 0 4 2 4, ⟨.UAO, .none, 0⟩) ]

/-- R77, the registers of Table D8-120 (1 to 34 of the 130 names without an index). -/
def namesOfTable1 : List (BitVec 16 × RegName) :=
  [ (encKey 3 4 2 1 0, ⟨.VTTBR, .EL2, 0⟩),
    (encKey 3 4 2 6 0, ⟨.VSTTBR, .EL2, 0⟩),
    (encKey 3 4 2 1 2, ⟨.VTCR, .EL2, 0⟩),
    (encKey 3 4 2 6 2, ⟨.VSTCR, .EL2, 0⟩),
    (encKey 3 4 0 0 5, ⟨.VMPIDR, .EL2, 0⟩),
    (encKey 3 4 14 0 3, ⟨.CNTVOFF, .EL2, 0⟩),
    (encKey 3 4 1 1 0, ⟨.HCR, .EL2, 0⟩),
    (encKey 3 4 1 1 3, ⟨.HSTR, .EL2, 0⟩),
    (encKey 3 4 0 0 0, ⟨.VPIDR, .EL2, 0⟩),
    (encKey 3 4 13 0 2, ⟨.TPIDR, .EL2, 0⟩),
    (encKey 3 4 1 2 2, ⟨.HCRX, .EL2, 0⟩),
    (encKey 3 4 2 2 0, ⟨.VNCR, .EL2, 0⟩),
    (encKey 3 5 1 0 2, ⟨.CPACR, .EL12, 0⟩),
    (encKey 3 0 1 0 2, ⟨.CPACR, .EL1, 0⟩),
    (encKey 3 5 13 0 1, ⟨.CONTEXTIDR, .EL12, 0⟩),
    (encKey 3 0 13 0 1, ⟨.CONTEXTIDR, .EL1, 0⟩),
    (encKey 3 5 1 0 0, ⟨.SCTLR, .EL12, 0⟩),
    (encKey 3 0 1 0 0, ⟨.SCTLR, .EL1, 0⟩),
    (encKey 3 0 1 0 1, ⟨.ACTLR, .EL1, 0⟩),
    (encKey 3 5 2 0 2, ⟨.TCR, .EL12, 0⟩),
    (encKey 3 0 2 0 2, ⟨.TCR, .EL1, 0⟩),
    (encKey 3 5 5 1 0, ⟨.AFSR0, .EL12, 0⟩),
    (encKey 3 0 5 1 0, ⟨.AFSR0, .EL1, 0⟩),
    (encKey 3 5 5 1 1, ⟨.AFSR1, .EL12, 0⟩),
    (encKey 3 0 5 1 1, ⟨.AFSR1, .EL1, 0⟩),
    (encKey 3 5 5 2 0, ⟨.ESR, .EL12, 0⟩),
    (encKey 3 0 5 2 0, ⟨.ESR, .EL1, 0⟩),
    (encKey 3 5 10 2 0, ⟨.MAIR, .EL12, 0⟩),
    (encKey 3 0 10 2 0, ⟨.MAIR, .EL1, 0⟩),
    (encKey 3 5 10 3 0, ⟨.AMAIR, .EL12, 0⟩),
    (encKey 3 0 10 3 0, ⟨.AMAIR, .EL1, 0⟩),
    (encKey 2 0 0 2 2, ⟨.MDSCR, .EL1, 0⟩),
    (encKey 3 5 4 0 0, ⟨.SPSR, .EL12, 0⟩),
    (encKey 3 0 4 0 0, ⟨.SPSR, .EL1, 0⟩) ]

/-- R77, the registers of Table D8-120 (35 to 68 of the 130 names without an index). -/
def namesOfTable2 : List (BitVec 16 × RegName) :=
  [ (encKey 3 5 14 3 2, ⟨.CNTV_CVAL, .EL02, 0⟩),
    (encKey 3 3 14 3 2, ⟨.CNTV_CVAL, .EL0, 0⟩),
    (encKey 3 5 14 3 1, ⟨.CNTV_CTL, .EL02, 0⟩),
    (encKey 3 3 14 3 1, ⟨.CNTV_CTL, .EL0, 0⟩),
    (encKey 3 5 14 2 2, ⟨.CNTP_CVAL, .EL02, 0⟩),
    (encKey 3 3 14 2 2, ⟨.CNTP_CVAL, .EL0, 0⟩),
    (encKey 3 5 14 2 1, ⟨.CNTP_CTL, .EL02, 0⟩),
    (encKey 3 3 14 2 1, ⟨.CNTP_CTL, .EL0, 0⟩),
    (encKey 3 5 13 0 7, ⟨.SCXTNUM, .EL12, 0⟩),
    (encKey 3 0 13 0 7, ⟨.SCXTNUM, .EL1, 0⟩),
    (encKey 3 5 5 6 0, ⟨.TFSR, .EL12, 0⟩),
    (encKey 3 0 5 6 0, ⟨.TFSR, .EL1, 0⟩),
    (encKey 3 4 3 1 0, ⟨.HDFGRTR2, .EL2, 0⟩),
    (encKey 3 4 14 0 6, ⟨.CNTPOFF, .EL2, 0⟩),
    (encKey 3 4 3 1 1, ⟨.HDFGWTR2, .EL2, 0⟩),
    (encKey 3 4 1 1 4, ⟨.HFGRTR, .EL2, 0⟩),
    (encKey 3 4 1 1 5, ⟨.HFGWTR, .EL2, 0⟩),
    (encKey 3 4 1 1 6, ⟨.HFGITR, .EL2, 0⟩),
    (encKey 3 4 3 1 4, ⟨.HDFGRTR, .EL2, 0⟩),
    (encKey 3 4 3 1 5, ⟨.HDFGWTR, .EL2, 0⟩),
    (encKey 3 5 1 2 0, ⟨.ZCR, .EL12, 0⟩),
    (encKey 3 0 1 2 0, ⟨.ZCR, .EL1, 0⟩),
    (encKey 3 4 3 1 6, ⟨.HAFGRTR, .EL2, 0⟩),
    (encKey 3 5 1 2 6, ⟨.SMCR, .EL12, 0⟩),
    (encKey 3 0 1 2 6, ⟨.SMCR, .EL1, 0⟩),
    (encKey 3 4 1 2 5, ⟨.SMPRIMAP, .EL2, 0⟩),
    (encKey 3 5 2 0 0, ⟨.TTBR0, .EL12, 0⟩),
    (encKey 3 0 2 0 0, ⟨.TTBR0, .EL1, 0⟩),
    (encKey 3 5 2 0 1, ⟨.TTBR1, .EL12, 0⟩),
    (encKey 3 0 2 0 1, ⟨.TTBR1, .EL1, 0⟩),
    (encKey 3 5 6 0 0, ⟨.FAR, .EL12, 0⟩),
    (encKey 3 0 6 0 0, ⟨.FAR, .EL1, 0⟩),
    (encKey 3 5 4 0 1, ⟨.ELR, .EL12, 0⟩),
    (encKey 3 0 4 0 1, ⟨.ELR, .EL1, 0⟩) ]

/-- R77, the registers of Table D8-120 (69 to 102 of the 130 names without an index). -/
def namesOfTable3 : List (BitVec 16 × RegName) :=
  [ (encKey 3 4 4 1 0, ⟨.SP, .EL1, 0⟩),
    (encKey 3 5 12 0 0, ⟨.VBAR, .EL12, 0⟩),
    (encKey 3 0 12 0 0, ⟨.VBAR, .EL1, 0⟩),
    (encKey 3 5 2 0 3, ⟨.TCR2, .EL12, 0⟩),
    (encKey 3 0 2 0 3, ⟨.TCR2, .EL1, 0⟩),
    (encKey 3 5 1 0 3, ⟨.SCTLR2, .EL12, 0⟩),
    (encKey 3 0 1 0 3, ⟨.SCTLR2, .EL1, 0⟩),
    (encKey 3 5 10 2 1, ⟨.MAIR2, .EL12, 0⟩),
    (encKey 3 0 10 2 1, ⟨.MAIR2, .EL1, 0⟩),
    (encKey 3 5 10 3 1, ⟨.AMAIR2, .EL12, 0⟩),
    (encKey 3 0 10 3 1, ⟨.AMAIR2, .EL1, 0⟩),
    (encKey 3 5 10 2 2, ⟨.PIRE0, .EL12, 0⟩),
    (encKey 3 0 10 2 2, ⟨.PIRE0, .EL1, 0⟩),
    (encKey 3 4 10 2 2, ⟨.PIRE0, .EL2, 0⟩),
    (encKey 3 5 10 2 3, ⟨.PIR, .EL12, 0⟩),
    (encKey 3 0 10 2 3, ⟨.PIR, .EL1, 0⟩),
    (encKey 3 5 10 2 4, ⟨.POR, .EL12, 0⟩),
    (encKey 3 0 10 2 4, ⟨.POR, .EL1, 0⟩),
    (encKey 3 4 10 2 5, ⟨.S2PIR, .EL2, 0⟩),
    (encKey 3 0 10 2 5, ⟨.S2POR, .EL1, 0⟩),
    (encKey 3 4 3 1 2, ⟨.HFGRTR2, .EL2, 0⟩),
    (encKey 3 4 3 1 3, ⟨.HFGWTR2, .EL2, 0⟩),
    (encKey 3 5 6 0 5, ⟨.PFAR, .EL12, 0⟩),
    (encKey 3 0 6 0 5, ⟨.PFAR, .EL1, 0⟩),
    (encKey 3 4 3 1 7, ⟨.HFGITR2, .EL2, 0⟩),
    (encKey 3 4 12 11 0, ⟨.ICH_HCR, .EL2, 0⟩),
    (encKey 3 4 12 11 7, ⟨.ICH_VMCR, .EL2, 0⟩),
    (encKey 3 4 12 1 1, ⟨.VDISR, .EL2, 0⟩),
    (encKey 3 4 5 2 3, ⟨.VSESR, .EL2, 0⟩),
    (encKey 3 0 9 10 0, ⟨.PMBLIMITR, .EL1, 0⟩),
    (encKey 3 0 9 10 1, ⟨.PMBPTR, .EL1, 0⟩),
    (encKey 3 0 9 10 3, ⟨.PMBSR, .EL1, 0⟩),
    (encKey 3 5 9 9 0, ⟨.PMSCR, .EL12, 0⟩),
    (encKey 3 0 9 9 0, ⟨.PMSCR, .EL1, 0⟩) ]

/-- R77, the registers of Table D8-120 (103 to 130 of the 130 names without an index). -/
def namesOfTable4 : List (BitVec 16 × RegName) :=
  [ (encKey 3 0 9 9 5, ⟨.PMSEVFR, .EL1, 0⟩),
    (encKey 3 0 9 9 2, ⟨.PMSICR, .EL1, 0⟩),
    (encKey 3 0 9 9 3, ⟨.PMSIRR, .EL1, 0⟩),
    (encKey 3 0 9 9 6, ⟨.PMSLATFR, .EL1, 0⟩),
    (encKey 3 0 9 9 1, ⟨.PMSNEVFR, .EL1, 0⟩),
    (encKey 3 0 9 10 4, ⟨.PMSDSFR, .EL1, 0⟩),
    (encKey 3 5 1 2 1, ⟨.TRFCR, .EL12, 0⟩),
    (encKey 3 0 1 2 1, ⟨.TRFCR, .EL1, 0⟩),
    (encKey 3 5 1 2 3, ⟨.TRCITECR, .EL12, 0⟩),
    (encKey 3 0 1 2 3, ⟨.TRCITECR, .EL1, 0⟩),
    (encKey 3 5 2 5 1, ⟨.GCSPR, .EL12, 0⟩),
    (encKey 3 0 2 5 1, ⟨.GCSPR, .EL1, 0⟩),
    (encKey 3 5 2 5 0, ⟨.GCSCR, .EL12, 0⟩),
    (encKey 3 0 2 5 0, ⟨.GCSCR, .EL1, 0⟩),
    (encKey 2 5 9 0 0, ⟨.BRBCR, .EL12, 0⟩),
    (encKey 2 1 9 0 0, ⟨.BRBCR, .EL1, 0⟩),
    (encKey 3 5 10 5 0, ⟨.MPAM1, .EL12, 0⟩),
    (encKey 3 0 10 5 0, ⟨.MPAM1, .EL1, 0⟩),
    (encKey 3 4 10 4 0, ⟨.MPAMHCR, .EL2, 0⟩),
    (encKey 3 4 10 4 1, ⟨.MPAMVPMV, .EL2, 0⟩),
    (encKey 3 4 10 6 0, ⟨.MPAMVPM0, .EL2, 0⟩),
    (encKey 3 4 10 6 1, ⟨.MPAMVPM1, .EL2, 0⟩),
    (encKey 3 4 10 6 2, ⟨.MPAMVPM2, .EL2, 0⟩),
    (encKey 3 4 10 6 3, ⟨.MPAMVPM3, .EL2, 0⟩),
    (encKey 3 4 10 6 4, ⟨.MPAMVPM4, .EL2, 0⟩),
    (encKey 3 4 10 6 5, ⟨.MPAMVPM5, .EL2, 0⟩),
    (encKey 3 4 10 6 6, ⟨.MPAMVPM6, .EL2, 0⟩),
    (encKey 3 4 10 6 7, ⟨.MPAMVPM7, .EL2, 0⟩) ]

/-- Registers the rules name and R77 gives no encoding for; VBAR_EL2 and SP_EL0 from the words of
vectors B2.3 and B2.14, the others PRESUMED (assumption 12). -/
def namesAdded : List (BitVec 16 × RegName) :=
  [ (encKey 3 4 12 0 0, ⟨.VBAR, .EL2, 0⟩),
    (encKey 3 0 4 1 0, ⟨.SP, .EL0, 0⟩),
    (encKey 3 0 7 4 0, ⟨.PAR, .EL1, 0⟩),
    (encKey 3 4 2 0 2, ⟨.TCR, .EL2, 0⟩),
    (encKey 3 4 2 0 0, ⟨.TTBR0, .EL2, 0⟩),
    (encKey 3 4 1 1 1, ⟨.MDCR, .EL2, 0⟩),
    (encKey 3 4 10 2 0, ⟨.MAIR, .EL2, 0⟩),
    (encKey 3 6 4 0 0, ⟨.SPSR, .EL3, 0⟩),
    (encKey 3 6 4 0 1, ⟨.ELR, .EL3, 0⟩),
    (encKey 3 6 5 2 0, ⟨.ESR, .EL3, 0⟩),
    (encKey 3 6 6 0 0, ⟨.FAR, .EL3, 0⟩),
    (encKey 3 6 12 0 0, ⟨.VBAR, .EL3, 0⟩) ]

/-- The default table of R77, without its indexed rows. -/
def namesByKey : List (BitVec 16 × RegName) :=
  namesOfRules ++ namesOfTable1 ++ namesOfTable2 ++ namesOfTable3 ++ namesOfTable4 ++ namesAdded

/-- The suffix R76 gives a register by its op1, for an encoding without a name (assumption 11).
DESIGN CHOICE: R76 lists op1 0 to 6 only; an encoding with op1 7 is taken as one of EL3, as with op1 6. -/
def suffixOfOp1 (op1 : BitVec 3) : RegSuffix :=
  if op1 = 3#3 then .EL0 else if op1 = 4#3 then .EL2 else if op1 = 5#3 then .EL12
  else if op1 = 6#3 ∨ op1 = 7#3 then .EL3 else .EL1

/-- The indexed rows of R77: the family and n of an encoding (R82). -/
def indexedName (e : SysEnc) : Option RegName :=
  if e.o0 = 1#1 ∧ e.op1 = 4#3 then
    if e.crn = 12#4 ∧ (e.crm = 12#4 ∨ e.crm = 13#4) then
      some ⟨.ICH_LR, .EL2, (e.crm.extractLsb' 0 1 ++ e.op2).setWidth 16⟩
    else if e.crn = 12#4 ∧ e.crm = 8#4 ∧ e.op2.extractLsb' 2 1 = 0#1 then
      some ⟨.ICH_AP0R, .EL2, e.op2.setWidth 16⟩
    else if e.crn = 12#4 ∧ e.crm = 9#4 ∧ e.op2.extractLsb' 2 1 = 0#1 then
      some ⟨.ICH_AP1R, .EL2, e.op2.setWidth 16⟩
    else if e.crn = 13#4 ∧ (e.crm = 8#4 ∨ e.crm = 9#4) then
      some ⟨.AMEVCNTVOFF0, .EL2, (e.crm.extractLsb' 0 1 ++ e.op2).setWidth 16⟩
    else if e.crn = 13#4 ∧ (e.crm = 10#4 ∨ e.crm = 11#4) then
      some ⟨.AMEVCNTVOFF1, .EL2, (e.crm.extractLsb' 0 1 ++ e.op2).setWidth 16⟩
    else none
  else none

/-- The default `SysRegName` (R77); an encoding it does not list is a register without a name. -/
def defaultRegName (e : SysEnc) : RegName :=
  match indexedName e with
  | some r => r
  | none =>
    match namesByKey.find? (fun p => p.1 == e.key) with
    | some p => p.2
    | none => ⟨.other, suffixOfOp1 e.op1, e.key⟩

/-- `SysRegName` (R77): the implementation's own names first, then the default table. -/
def sysRegName (c : Config) (e : SysEnc) : RegName :=
  match c.regNames.find? (fun p => p.1 == e) with
  | some p => p.2
  | none => defaultRegName e

/-- `NamedEL2` of R29. -/
def namedEL2 (r : RegName) : Bool := r.sfx == .EL2

/-- `NamedEL12` of R29. -/
def namedEL12 (r : RegName) : Bool := r.sfx == .EL12

/-- `NamedEL02` of R29. -/
def namedEL02 (r : RegName) : Bool := r.sfx == .EL02

/-- `IsBankedSPSR` of R29. -/
def isBankedSPSR (r : RegName) : Bool :=
  r == ⟨.SPSR_irq, .none, 0⟩ || r == ⟨.SPSR_abt, .none, 0⟩ ||
    r == ⟨.SPSR_und, .none, 0⟩ || r == ⟨.SPSR_fiq, .none, 0⟩

/-- `NVExempt` of R29: the eight registers R102 excepts. -/
def nvExempt (r : RegName) : Bool :=
  r == ⟨.SP, .EL2, 0⟩ || r == ⟨.MECIDR, .EL2, 0⟩ || r == ⟨.MECID_A0, .EL2, 0⟩ ||
    r == ⟨.MECID_A1, .EL2, 0⟩ || r == ⟨.MECID_P0, .EL2, 0⟩ || r == ⟨.MECID_P1, .EL2, 0⟩ ||
    r == ⟨.VMECID_A, .EL2, 0⟩ || r == ⟨.VMECID_P, .EL2, 0⟩

/-- `NV1Set` of R29. -/
def nv1Set (r : RegName) : Bool :=
  r == ⟨.VBAR, .EL1, 0⟩ || r == ⟨.ELR, .EL1, 0⟩ || r == ⟨.SPSR, .EL1, 0⟩ ||
    r == ⟨.SCXTNUM, .EL1, 0⟩

/-- `RedirectTarget` of R148 (R149 to R153). -/
def redirectTarget (r : RegName) : Option RegName :=
  if r == ⟨.SPSR, .EL2, 0⟩ then some ⟨.SPSR, .EL1, 0⟩
  else if r == ⟨.ELR, .EL2, 0⟩ then some ⟨.ELR, .EL1, 0⟩
  else if r == ⟨.ESR, .EL2, 0⟩ then some ⟨.ESR, .EL1, 0⟩
  else if r == ⟨.FAR, .EL2, 0⟩ then some ⟨.FAR, .EL1, 0⟩
  else if r == ⟨.TFSR, .EL2, 0⟩ then some ⟨.TFSR, .EL1, 0⟩
  else none

/-- `EventStreamReg` of R29 (R162). -/
def eventStreamReg (r : RegName) (nv1 : Bool) : Bool :=
  r == ⟨.CNTHCTL, .EL2, 0⟩ || (!nv1 && r == ⟨.CNTKCTL, .EL12, 0⟩) ||
    (nv1 && r == ⟨.CNTKCTL, .EL1, 0⟩)

/-- `NVTrapSet` of R107: classes 1 to 5 of R101 (R102 to R106). -/
def nvTrapSet (r : RegName) : Bool :=
  (namedEL2 r && !nvExempt r) || namedEL12 r || namedEL02 r || isBankedSPSR r ||
    r == ⟨.SP, .EL1, 0⟩

/-- The lowest Exception level at which a register is accessible, from its name's suffix with
the exceptions R76 lists: SP_EL1, SP_EL2 and the banked SPSRs. PRESUMED (assumption 13), as R76 is silent on
them: SP_EL0 is accessible from EL1 and not from EL0, and so is a name without suffix that R76 does not
list (CurrentEL, PAN, UAO). -/
def minEL (r : RegName) : EL :=
  if r == ⟨.SP, .EL0, 0⟩ then .EL1
  else if r == ⟨.SP, .EL1, 0⟩ then .EL2
  else if r == ⟨.SP, .EL2, 0⟩ then .EL3
  else if isBankedSPSR r then .EL2
  else match r.sfx with
    | .EL0 => .EL0
    | .none => .EL1
    | .EL1 => .EL1
    | .EL2 => .EL2
    | .EL12 => .EL2
    | .EL02 => .EL2
    | .EL3 => .EL3

/-- The register whose storage a name stands for: X_EL12 is X_EL1 and X_EL02 is X_EL0 (R30). DESIGN CHOICE
(assumption 11): an encoding without a name and with op1 5 shares the storage of the encoding with op1 0 if
that one has no name either (R76); if it has one, as (3, 0, 1, 0, 1) of ACTLR_EL1 has, the encoding with op1
5 is a register `other` with storage of its own and no alias of the named one. -/
def storageName (r : RegName) : RegName :=
  match r.sfx with
  | .EL12 =>
    if r.base = .other then ⟨.other, .EL1, r.idx &&& 0xC7FF#16⟩ else ⟨r.base, .EL1, r.idx⟩
  | .EL02 => ⟨r.base, .EL0, r.idx⟩
  | _ => r

/-- The key of a register in the register store: injective in the name. -/
def regKey (r : RegName) : Nat := (r.base.ctorIdx * 8 + r.sfx.ctorIdx) * 65536 + r.idx.toNat

/-- One row of Table D8-120: the offset and the names of its two columns (R81). -/
structure VncrRow where
  offset : BitVec 12
  name0 : RegName
  name1 : RegName
  deriving DecidableEq, Repr

/-- Table D8-120, rows T1 to T34 without T54 and the indexed rows (R81). -/
def vncrRows1 : List VncrRow :=
  [ ⟨0x020#12, ⟨.VTTBR, .EL2, 0⟩, ⟨.VTTBR, .EL2, 0⟩⟩,
    ⟨0x030#12, ⟨.VSTTBR, .EL2, 0⟩, ⟨.VSTTBR, .EL2, 0⟩⟩,
    ⟨0x040#12, ⟨.VTCR, .EL2, 0⟩, ⟨.VTCR, .EL2, 0⟩⟩,
    ⟨0x048#12, ⟨.VSTCR, .EL2, 0⟩, ⟨.VSTCR, .EL2, 0⟩⟩,
    ⟨0x050#12, ⟨.VMPIDR, .EL2, 0⟩, ⟨.VMPIDR, .EL2, 0⟩⟩,
    ⟨0x060#12, ⟨.CNTVOFF, .EL2, 0⟩, ⟨.CNTVOFF, .EL2, 0⟩⟩,
    ⟨0x078#12, ⟨.HCR, .EL2, 0⟩, ⟨.HCR, .EL2, 0⟩⟩,
    ⟨0x080#12, ⟨.HSTR, .EL2, 0⟩, ⟨.HSTR, .EL2, 0⟩⟩,
    ⟨0x088#12, ⟨.VPIDR, .EL2, 0⟩, ⟨.VPIDR, .EL2, 0⟩⟩,
    ⟨0x090#12, ⟨.TPIDR, .EL2, 0⟩, ⟨.TPIDR, .EL2, 0⟩⟩,
    ⟨0x0A0#12, ⟨.HCRX, .EL2, 0⟩, ⟨.HCRX, .EL2, 0⟩⟩,
    ⟨0x0B0#12, ⟨.VNCR, .EL2, 0⟩, ⟨.VNCR, .EL2, 0⟩⟩,
    ⟨0x100#12, ⟨.CPACR, .EL12, 0⟩, ⟨.CPACR, .EL1, 0⟩⟩,
    ⟨0x108#12, ⟨.CONTEXTIDR, .EL12, 0⟩, ⟨.CONTEXTIDR, .EL1, 0⟩⟩,
    ⟨0x110#12, ⟨.SCTLR, .EL12, 0⟩, ⟨.SCTLR, .EL1, 0⟩⟩,
    ⟨0x118#12, ⟨.ACTLR, .EL1, 0⟩, ⟨.ACTLR, .EL1, 0⟩⟩,
    ⟨0x120#12, ⟨.TCR, .EL12, 0⟩, ⟨.TCR, .EL1, 0⟩⟩,
    ⟨0x128#12, ⟨.AFSR0, .EL12, 0⟩, ⟨.AFSR0, .EL1, 0⟩⟩,
    ⟨0x130#12, ⟨.AFSR1, .EL12, 0⟩, ⟨.AFSR1, .EL1, 0⟩⟩,
    ⟨0x138#12, ⟨.ESR, .EL12, 0⟩, ⟨.ESR, .EL1, 0⟩⟩,
    ⟨0x140#12, ⟨.MAIR, .EL12, 0⟩, ⟨.MAIR, .EL1, 0⟩⟩,
    ⟨0x148#12, ⟨.AMAIR, .EL12, 0⟩, ⟨.AMAIR, .EL1, 0⟩⟩,
    ⟨0x158#12, ⟨.MDSCR, .EL1, 0⟩, ⟨.MDSCR, .EL1, 0⟩⟩,
    ⟨0x160#12, ⟨.SPSR, .EL12, 0⟩, ⟨.SPSR, .EL1, 0⟩⟩,
    ⟨0x168#12, ⟨.CNTV_CVAL, .EL02, 0⟩, ⟨.CNTV_CVAL, .EL0, 0⟩⟩,
    ⟨0x170#12, ⟨.CNTV_CTL, .EL02, 0⟩, ⟨.CNTV_CTL, .EL0, 0⟩⟩,
    ⟨0x178#12, ⟨.CNTP_CVAL, .EL02, 0⟩, ⟨.CNTP_CVAL, .EL0, 0⟩⟩,
    ⟨0x180#12, ⟨.CNTP_CTL, .EL02, 0⟩, ⟨.CNTP_CTL, .EL0, 0⟩⟩,
    ⟨0x188#12, ⟨.SCXTNUM, .EL12, 0⟩, ⟨.SCXTNUM, .EL1, 0⟩⟩,
    ⟨0x190#12, ⟨.TFSR, .EL12, 0⟩, ⟨.TFSR, .EL1, 0⟩⟩,
    ⟨0x1A0#12, ⟨.HDFGRTR2, .EL2, 0⟩, ⟨.HDFGRTR2, .EL2, 0⟩⟩,
    ⟨0x1A8#12, ⟨.CNTPOFF, .EL2, 0⟩, ⟨.CNTPOFF, .EL2, 0⟩⟩,
    ⟨0x1B0#12, ⟨.HDFGWTR2, .EL2, 0⟩, ⟨.HDFGWTR2, .EL2, 0⟩⟩,
    ⟨0x1B8#12, ⟨.HFGRTR, .EL2, 0⟩, ⟨.HFGRTR, .EL2, 0⟩⟩ ]

/-- Table D8-120, rows T35 to T72 without T54 and the indexed rows (R81). -/
def vncrRows2 : List VncrRow :=
  [ ⟨0x1C0#12, ⟨.HFGWTR, .EL2, 0⟩, ⟨.HFGWTR, .EL2, 0⟩⟩,
    ⟨0x1C8#12, ⟨.HFGITR, .EL2, 0⟩, ⟨.HFGITR, .EL2, 0⟩⟩,
    ⟨0x1D0#12, ⟨.HDFGRTR, .EL2, 0⟩, ⟨.HDFGRTR, .EL2, 0⟩⟩,
    ⟨0x1D8#12, ⟨.HDFGWTR, .EL2, 0⟩, ⟨.HDFGWTR, .EL2, 0⟩⟩,
    ⟨0x1E0#12, ⟨.ZCR, .EL12, 0⟩, ⟨.ZCR, .EL1, 0⟩⟩,
    ⟨0x1E8#12, ⟨.HAFGRTR, .EL2, 0⟩, ⟨.HAFGRTR, .EL2, 0⟩⟩,
    ⟨0x1F0#12, ⟨.SMCR, .EL12, 0⟩, ⟨.SMCR, .EL1, 0⟩⟩,
    ⟨0x1F8#12, ⟨.SMPRIMAP, .EL2, 0⟩, ⟨.SMPRIMAP, .EL2, 0⟩⟩,
    ⟨0x200#12, ⟨.TTBR0, .EL12, 0⟩, ⟨.TTBR0, .EL1, 0⟩⟩,
    ⟨0x210#12, ⟨.TTBR1, .EL12, 0⟩, ⟨.TTBR1, .EL1, 0⟩⟩,
    ⟨0x220#12, ⟨.FAR, .EL12, 0⟩, ⟨.FAR, .EL1, 0⟩⟩,
    ⟨0x230#12, ⟨.ELR, .EL12, 0⟩, ⟨.ELR, .EL1, 0⟩⟩,
    ⟨0x240#12, ⟨.SP, .EL1, 0⟩, ⟨.SP, .EL1, 0⟩⟩,
    ⟨0x250#12, ⟨.VBAR, .EL12, 0⟩, ⟨.VBAR, .EL1, 0⟩⟩,
    ⟨0x270#12, ⟨.TCR2, .EL12, 0⟩, ⟨.TCR2, .EL1, 0⟩⟩,
    ⟨0x278#12, ⟨.SCTLR2, .EL12, 0⟩, ⟨.SCTLR2, .EL1, 0⟩⟩,
    ⟨0x280#12, ⟨.MAIR2, .EL12, 0⟩, ⟨.MAIR2, .EL1, 0⟩⟩,
    ⟨0x288#12, ⟨.AMAIR2, .EL12, 0⟩, ⟨.AMAIR2, .EL1, 0⟩⟩,
    ⟨0x290#12, ⟨.PIRE0, .EL12, 0⟩, ⟨.PIRE0, .EL1, 0⟩⟩,
    ⟨0x2A0#12, ⟨.PIR, .EL12, 0⟩, ⟨.PIR, .EL1, 0⟩⟩,
    ⟨0x2A8#12, ⟨.POR, .EL12, 0⟩, ⟨.POR, .EL1, 0⟩⟩,
    ⟨0x2B0#12, ⟨.S2PIR, .EL2, 0⟩, ⟨.S2PIR, .EL2, 0⟩⟩,
    ⟨0x2B8#12, ⟨.S2POR, .EL1, 0⟩, ⟨.S2POR, .EL1, 0⟩⟩,
    ⟨0x2C0#12, ⟨.HFGRTR2, .EL2, 0⟩, ⟨.HFGRTR2, .EL2, 0⟩⟩,
    ⟨0x2C8#12, ⟨.HFGWTR2, .EL2, 0⟩, ⟨.HFGWTR2, .EL2, 0⟩⟩,
    ⟨0x2D0#12, ⟨.PFAR, .EL12, 0⟩, ⟨.PFAR, .EL1, 0⟩⟩,
    ⟨0x310#12, ⟨.HFGITR2, .EL2, 0⟩, ⟨.HFGITR2, .EL2, 0⟩⟩,
    ⟨0x318#12, ⟨.SCTLRMASK, .EL12, 0⟩, ⟨.SCTLRMASK, .EL1, 0⟩⟩,
    ⟨0x320#12, ⟨.CPACRMASK, .EL12, 0⟩, ⟨.CPACRMASK, .EL1, 0⟩⟩,
    ⟨0x328#12, ⟨.SCTLR2MASK, .EL12, 0⟩, ⟨.SCTLR2MASK, .EL1, 0⟩⟩,
    ⟨0x330#12, ⟨.TCRMASK, .EL12, 0⟩, ⟨.TCRMASK, .EL1, 0⟩⟩,
    ⟨0x338#12, ⟨.TCR2MASK, .EL12, 0⟩, ⟨.TCR2MASK, .EL1, 0⟩⟩,
    ⟨0x340#12, ⟨.ACTLRMASK, .EL12, 0⟩, ⟨.ACTLRMASK, .EL1, 0⟩⟩,
    ⟨0x4C0#12, ⟨.ICH_HCR, .EL2, 0⟩, ⟨.ICH_HCR, .EL2, 0⟩⟩ ]

/-- Table D8-120, rows T73 to T104 without T54 and the indexed rows (R81). -/
def vncrRows3 : List VncrRow :=
  [ ⟨0x4C8#12, ⟨.ICH_VMCR, .EL2, 0⟩, ⟨.ICH_VMCR, .EL2, 0⟩⟩,
    ⟨0x500#12, ⟨.VDISR, .EL2, 0⟩, ⟨.VDISR, .EL2, 0⟩⟩,
    ⟨0x508#12, ⟨.VSESR, .EL2, 0⟩, ⟨.VSESR, .EL2, 0⟩⟩,
    ⟨0x800#12, ⟨.PMBLIMITR, .EL1, 0⟩, ⟨.PMBLIMITR, .EL1, 0⟩⟩,
    ⟨0x810#12, ⟨.PMBPTR, .EL1, 0⟩, ⟨.PMBPTR, .EL1, 0⟩⟩,
    ⟨0x820#12, ⟨.PMBSR, .EL1, 0⟩, ⟨.PMBSR, .EL1, 0⟩⟩,
    ⟨0x828#12, ⟨.PMSCR, .EL12, 0⟩, ⟨.PMSCR, .EL1, 0⟩⟩,
    ⟨0x830#12, ⟨.PMSEVFR, .EL1, 0⟩, ⟨.PMSEVFR, .EL1, 0⟩⟩,
    ⟨0x838#12, ⟨.PMSICR, .EL1, 0⟩, ⟨.PMSICR, .EL1, 0⟩⟩,
    ⟨0x840#12, ⟨.PMSIRR, .EL1, 0⟩, ⟨.PMSIRR, .EL1, 0⟩⟩,
    ⟨0x848#12, ⟨.PMSLATFR, .EL1, 0⟩, ⟨.PMSLATFR, .EL1, 0⟩⟩,
    ⟨0x850#12, ⟨.PMSNEVFR, .EL1, 0⟩, ⟨.PMSNEVFR, .EL1, 0⟩⟩,
    ⟨0x858#12, ⟨.PMSDSFR, .EL1, 0⟩, ⟨.PMSDSFR, .EL1, 0⟩⟩,
    ⟨0x880#12, ⟨.TRFCR, .EL12, 0⟩, ⟨.TRFCR, .EL1, 0⟩⟩,
    ⟨0x888#12, ⟨.TRCITECR, .EL12, 0⟩, ⟨.TRCITECR, .EL1, 0⟩⟩,
    ⟨0x8C0#12, ⟨.GCSPR, .EL12, 0⟩, ⟨.GCSPR, .EL1, 0⟩⟩,
    ⟨0x8D0#12, ⟨.GCSCR, .EL12, 0⟩, ⟨.GCSCR, .EL1, 0⟩⟩,
    ⟨0x8E0#12, ⟨.BRBCR, .EL12, 0⟩, ⟨.BRBCR, .EL1, 0⟩⟩,
    ⟨0x8E8#12, ⟨.SPMACCESSR, .EL12, 0⟩, ⟨.SPMACCESSR, .EL1, 0⟩⟩,
    ⟨0x900#12, ⟨.MPAM1, .EL12, 0⟩, ⟨.MPAM1, .EL1, 0⟩⟩,
    ⟨0x908#12, ⟨.MPAMBW1, .EL12, 0⟩, ⟨.MPAMBW1, .EL1, 0⟩⟩,
    ⟨0x910#12, ⟨.MPAMBWCAP, .EL2, 0⟩, ⟨.MPAMBWCAP, .EL2, 0⟩⟩,
    ⟨0x930#12, ⟨.MPAMHCR, .EL2, 0⟩, ⟨.MPAMHCR, .EL2, 0⟩⟩,
    ⟨0x938#12, ⟨.MPAMVPMV, .EL2, 0⟩, ⟨.MPAMVPMV, .EL2, 0⟩⟩,
    ⟨0x940#12, ⟨.MPAMVPM0, .EL2, 0⟩, ⟨.MPAMVPM0, .EL2, 0⟩⟩,
    ⟨0x948#12, ⟨.MPAMVPM1, .EL2, 0⟩, ⟨.MPAMVPM1, .EL2, 0⟩⟩,
    ⟨0x950#12, ⟨.MPAMVPM2, .EL2, 0⟩, ⟨.MPAMVPM2, .EL2, 0⟩⟩,
    ⟨0x958#12, ⟨.MPAMVPM3, .EL2, 0⟩, ⟨.MPAMVPM3, .EL2, 0⟩⟩,
    ⟨0x960#12, ⟨.MPAMVPM4, .EL2, 0⟩, ⟨.MPAMVPM4, .EL2, 0⟩⟩,
    ⟨0x968#12, ⟨.MPAMVPM5, .EL2, 0⟩, ⟨.MPAMVPM5, .EL2, 0⟩⟩,
    ⟨0x970#12, ⟨.MPAMVPM6, .EL2, 0⟩, ⟨.MPAMVPM6, .EL2, 0⟩⟩,
    ⟨0x978#12, ⟨.MPAMVPM7, .EL2, 0⟩, ⟨.MPAMVPM7, .EL2, 0⟩⟩ ]

/-- Row T54, as printed or as the neighbouring rows suggest (90_conflicts.md C3). -/
def vncrRow298 (k : Row298) : VncrRow :=
  match k with
  | .literal => ⟨0x298#12, ⟨.PIRE0, .EL1, 0⟩, ⟨.PIRE0, .EL2, 0⟩⟩
  | .bothEL2 => ⟨0x298#12, ⟨.PIRE0, .EL2, 0⟩, ⟨.PIRE0, .EL2, 0⟩⟩

/-- The rows of Table D8-120 that stand for one register each (R81). -/
def vncrRows (k : Row298) : List VncrRow :=
  vncrRow298 k :: (vncrRows1 ++ vncrRows2 ++ vncrRows3)

/-- The column of the table for this value of nv1 (R80). -/
def VncrRow.name (row : VncrRow) (nv1 : Bool) : RegName := if nv1 then row.name1 else row.name0

/-- The indexed rows of Table D8-120: the first offset of a family and how many registers it
can have before the next row (R82). -/
def vncrFamily (b : RegBase) : Option (Nat × Nat) :=
  match b with
  | .ICH_LR => some (0x400, 16)
  | .ICH_AP0R => some (0x480, 4)
  | .ICH_AP1R => some (0x4A0, 4)
  | .AMEVCNTVOFF0 => some (0xA00, 16)
  | .AMEVCNTVOFF1 => some (0xA80, 16)
  | _ => none

/-- `VNCROffset` of R80: the offset of a register in the column selected by nv1. -/
def vncrOffset (k : Row298) (r : RegName) (nv1 : Bool) : Option (BitVec 12) :=
  match vncrFamily r.base with
  | some (first, count) =>
    if r.sfx = .EL2 ∧ r.idx.toNat < count then some (BitVec.ofNat 12 (first + 8 * r.idx.toNat))
    else none
  | none =>
    match (vncrRows k).find? (fun row => row.name nv1 == r) with
    | some row => some row.offset
    | none => none

end Sys2Proof.Machine
end

