-- ==== Sys2Proof/Machine/Store.lean ====
section
/-! DEFINITION. The one canonical form of memory and of the register store: a list of key and
value pairs, keys strictly rising, no value equal to what an unlisted key reads as. Byte order
(R55, R70) is settled here once. -/

namespace Sys2Proof.Machine

/-- The value at a key, `d` if the key is not listed. -/
def storeRead {β : Type} (d : β) : List (Nat × β) → Nat → β
  | [], _ => d
  | (k', v) :: rest, k => if k = k' then v else storeRead d rest k

/-- The store with this value at this key, in canonical form again. -/
def storeWrite {β : Type} [DecidableEq β] (d : β) : List (Nat × β) → Nat → β → List (Nat × β)
  | [], k, v => if v = d then [] else [(k, v)]
  | (k', v') :: rest, k, v =>
    if k < k' then if v = d then (k', v') :: rest else (k, v) :: (k', v') :: rest
    else if k = k' then if v = d then rest else (k, v) :: rest
    else (k', v') :: storeWrite d rest k v

/-- Every key of the store is at least `lo`, keys rise strictly, and no entry is redundant. -/
def storeWfFrom {β : Type} [DecidableEq β] (d : β) : Nat → List (Nat × β) → Bool
  | _, [] => true
  | lo, (k, v) :: rest => decide (lo ≤ k) && decide (v ≠ d) && storeWfFrom d (k + 1) rest

/-- What an address that memory does not list reads as (assumption 4: the source gives memory
no reset content). -/
def Memory.unlisted : Byte := 0#8

/-- The byte at a physical address. -/
def Memory.read (m : Memory) (a : Nat) : Byte := storeRead Memory.unlisted m a

/-- Memory with this byte at this physical address. -/
def Memory.write (m : Memory) (a : Nat) (b : Byte) : Memory := storeWrite Memory.unlisted m a b

/-- The canonical form of memory. -/
def Memory.wf (m : Memory) : Bool := storeWfFrom Memory.unlisted 0 m

/-- `n` bytes from an address upwards (the primitive `MemRead` of 00_scope.md section 6.2). -/
def Memory.readBytes (m : Memory) (a : Nat) : Nat → List Byte
  | 0 => []
  | n + 1 => m.read a :: m.readBytes (a + 1) n

/-- The bytes written from an address upwards (the primitive `MemWrite`). -/
def Memory.writeBytes (m : Memory) (a : Nat) : List Byte → Memory
  | [] => m
  | b :: bs => Memory.writeBytes (m.write a b) (a + 1) bs

/-- The canonical form of the register store. -/
def RegStore.wf (r : RegStore) : Bool := storeWfFrom (0#128) 0 r

/-- The number that bytes stand for, the first byte least significant. -/
def littleNat : List Byte → Nat
  | [] => 0
  | b :: bs => b.toNat + 256 * littleNat bs

/-- The low `n` bytes of a number, least significant first. -/
def littleBytes : Nat → Nat → List Byte
  | 0, _ => []
  | n + 1, v => BitVec.ofNat 8 v :: littleBytes n (v / 256)

/-- The number that bytes stand for in the byte order of R55: `bigEndian` is SCTLR_EL2.EE. -/
def natOfBytes (bigEndian : Bool) (bs : List Byte) : Nat :=
  if bigEndian then littleNat bs.reverse else littleNat bs

/-- The bytes of a number in the byte order of R55. -/
def bytesOfNat (bigEndian : Bool) (n v : Nat) : List Byte :=
  if bigEndian then (littleBytes n v).reverse else littleBytes n v

end Sys2Proof.Machine
end

