-- ==== Sys2Proof/Machine/Ops.lean ====
section
/-! DEFINITION. The named operations every meaning is made of: registers, free values, the
Effective values of HCR_EL2 (R10 to R18), the syndromes (R200 to R203, R209, R232), taking an
exception (R125, R204, R205, R213) and returning from one. -/

namespace Sys2Proof.Machine

/-! ## Registers and free values -/

/-- The 128-bit storage of a register (R30). -/
def State.reg128 (s : State) (r : RegName) : DWord :=
  storeRead 0#128 s.regs (regKey (storageName r))

/-- The 64-bit value of a register (R30): the low half of its storage. DESIGN CHOICE (assumption 26): so a
64-bit read of a 128-bit register, by MRS, plain or redirected (R148), or by a rule that looks at a field,
gives bits [63:0], where the spec says only that 64 bits move. -/
def State.reg (s : State) (r : RegName) : Word := (s.reg128 r).setWidth 64

/-- The state with this value in the storage of a register. -/
def State.setReg128 (s : State) (r : RegName) (v : DWord) : State :=
  { s with regs := storeWrite 0#128 s.regs (regKey (storageName r)) v }

/-- The state with this 64-bit value in a register. -/
def State.setReg (s : State) (r : RegName) (v : Word) : State := s.setReg128 r (v.setWidth 128)

/-- Whether the slot of a register in one column of Table D8-120, if it has one, is aligned to 16 bytes
(R62). -/
def slotAligned16 (k : Row298) (r : RegName) (nv1 : Bool) : Bool :=
  match vncrOffset k r nv1 with
  | some off => off.extractLsb' 0 4 == 0#4
  | none => true

/-- `Is128` of a register: the implementation lists it, its slots are aligned to 16 bytes in both columns
(R62), and FEAT_SYSREG128 is implemented (R72). DESIGN CHOICE (assumption 26): R62 binds `Is128` whether or
not FEAT_NV2 is implemented, where R3 puts R52 to R66 under FEAT_NV2 and section 5 of 00_scope.md names R62
with no condition. -/
def isReg128 (c : Config) (r : RegName) : Bool :=
  c.haveSYSREG128 && c.is128.contains r && slotAligned16 c.row298 r false &&
    slotAligned16 c.row298 r true

/-- The state with this 64-bit value in a register. The upper half of a 128-bit register is not stated
after such a write: it is the free value of draw `n` (assumption 26). -/
def State.setReg64 (s : State) (n : Nat) (r : RegName) (v : Word) : State :=
  if isReg128 s.cfg r then s.setReg128 r (Config.freeWord n ++ v) else s.setReg r v

/-- The free value that the next draw gives. -/
def State.free (s : State) : Word := Config.freeWord s.draw

/-- The state after `n` draws. -/
def State.drawn (s : State) (n : Nat) : State := { s with draw := s.draw + n }

/-- The state at the next instruction: "advances by 4 after every instruction that neither
branches nor takes an exception" (R32). DESIGN CHOICE (assumption 45): from the top of the address space
it wraps to 0, where R32 and 92 D4 leave wrap-around open. -/
def State.advance (s : State) : State := { s with pc := s.pc + 4#64 }

/-- The state with these events added to what the other units saw. -/
def State.record (s : State) (es : List Event) : State := { s with events := s.events ++ es }

/-! ## HCR_EL2 and its Effective values -/

/-- One stored bit of HCR_EL2 (R10, R11, R18). -/
def State.hcr (s : State) (bit : Nat) : Bool := (s.reg ⟨.HCR, .EL2, 0⟩).getLsbD bit

/-- Whether HCR_EL2.NV1 is RES0 (R13). -/
def nv1Res0 (c : Config) : Bool := c.e2h0 == 0b1110#4

/-- `EffNV1_raw` of R15. -/
def effNV1Raw (s : State) : Bool :=
  if !s.cfg.haveNV then false
  else if nv1Res0 s.cfg then false
  else if !s.cfg.el2Enabled then false
  else s.hcr 43

/-- `EffNV2_raw` of R16. -/
def effNV2Raw (s : State) (nv : Bool) : Bool :=
  if !s.cfg.haveNV2 then false
  else if !s.cfg.el2Enabled then false
  else if s.cfg.nvFrac == 0b0001#4 && nv then true
  else s.hcr 45

/-- The resolved values of R17. -/
structure Eff where
  nv : Bool
  nv1 : Bool
  nv2 : Bool
  trapOnly : Bool
  deriving DecidableEq, Repr

/-- `EffNV` of R17, with the CONSTRAINED UNPREDICTABLE choice of R128 and the condition of R147. -/
def effNV (s : State) : Eff :=
  let nv0 := s.cfg.haveNV && s.cfg.el2Enabled && s.hcr 42
  let nv10 := effNV1Raw s
  if !nv0 && nv10 then
    match s.cfg.cuNV0NV1 with
    | .asNV11 => ⟨true, true, effNV2Raw s true, false⟩
    | .asNV00 => ⟨false, false, false, false⟩
    | .trapOnly => ⟨false, false, false, true⟩
  else ⟨nv0, nv10, nv0 && effNV2Raw s nv0, false⟩

/-- HCR_EL2.AT, 0 without FEAT_NV (R10) and without EL2 (92 D21). -/
def effAT (s : State) : Bool := s.cfg.haveNV && s.cfg.el2Enabled && s.hcr 44

/-- Eff(HCR_EL2.TSC) (R18, R119; assumption 40). -/
def effTSC (s : State) : Bool := s.cfg.el2Enabled && s.hcr 19

/-- Eff(HCR_EL2.E2H) (R18, R54; assumption 40). -/
def effE2H (s : State) : Bool := s.cfg.el2Enabled && s.hcr 34

/-- HCR_EL2.TGE (92 D27; its bit is assumption 13). -/
def effTGE (s : State) : Bool := s.cfg.el2Enabled && s.hcr 27

/-- `NV1Active` of R41. -/
def nv1Active (s : State) : Bool := s.pstate.el == .EL1 && (effNV s).nv && (effNV s).nv1

/-- PSTATE.PAN as every permission check sees it: "treated as 0 for all purposes except reading
the value of the bit" under `NV1Active` (R49). -/
def effPAN (s : State) : Bool := s.pstate.pan && !nv1Active s

/-- The Effective value of PSTATE.UAO: 1 under `NV1Active` (R50). -/
def effUAO (s : State) : Bool := s.pstate.uao || nv1Active s

/-- The case R51 refuses: execution at EL0 with nv and nv1 both 1. -/
def el0UnderNV1 (s : State) : Bool :=
  s.pstate.el == .EL0 && (effNV s).nv && (effNV s).nv1

/-! ## Syndromes -/

/-- `ESR_ELx = (e << 26) | (1 << 25) | iss` (R22, R200). -/
def esrValue (ec : BitVec 6) (iss : BitVec 25) : Word := 0#32 ++ ec ++ 1#1 ++ iss

/-- The bit Direction: 1 for a read (R201). -/
def dirBit : Dir → BitVec 1
  | .read => 1#1
  | .write => 0#1

/-- The bit WnR: 1 for a write (R209). -/
def wnrBit : Dir → BitVec 1
  | .read => 0#1
  | .write => 1#1

/-- `ISS_sysreg` of R201, from the fields of the instruction word. -/
def issSysreg (e : SysEnc) (rt : BitVec 5) (dir : Dir) : BitVec 25 :=
  0#3 ++ (1#1 ++ e.o0) ++ e.op2 ++ e.op1 ++ e.crn ++ rt ++ e.crm ++ dirBit dir

/-- `ISS_sys` of R202: op0 is 1 and the direction a write. -/
def issSys (op : SysOp) (rt : BitVec 5) : BitVec 25 :=
  0#3 ++ 1#2 ++ op.op2 ++ op.op1 ++ op.crn ++ rt ++ op.crm ++ 0#1

/-- `ISS_smc` of R203. -/
def issSmc (imm16 : BitVec 16) : BitVec 25 := 0#9 ++ imm16

/-- `ISS_eret` of R203. -/
def issEret : EretKind → BitVec 25
  | .eret => 0#25
  | .eretaa => 2#25
  | .eretab => 3#25

/-- The ISS of a Data Abort or Watchpoint of a transformed access: VNCR is bit 13 and 1, WnR bit
6, the status code bits [5:0] (R209, R212, R232). -/
def issVncr (dir : Dir) (fsc : BitVec 6) : BitVec 25 :=
  0#11 ++ 1#1 ++ 0#6 ++ wnrBit dir ++ fsc

/-! ## Taking an exception -/

/-- What an exception entry writes to ESR_ELx. -/
inductive Syndrome where
  /-- A class and an ISS. -/
  | value (ec : BitVec 6) (iss : BitVec 25)
  /-- Only VNCR = 1 is stated, every other bit is open (R211, R212 at EL3). -/
  | onlyVncr
  deriving DecidableEq, Repr

/-- What an exception entry does to FAR_ELx. -/
inductive FarUpdate where
  | keep
  | address (a : Word)
  /-- Not stated (R211): a free value. -/
  | unstated
  deriving DecidableEq, Repr

/-- Where an exception enters in the vector table. -/
inductive VectorChoice where
  | standard
  /-- Not stated (R211 at EL3): a free entry of the table. -/
  | unstated
  deriving DecidableEq, Repr

/-- An exception to be taken. -/
structure Exc where
  target : EL
  syndrome : Syndrome
  far : FarUpdate
  /-- The preferred return address (R213). -/
  ret : Word
  vector : VectorChoice := .standard
  deriving DecidableEq, Repr

/-- The suffix of the exception registers of a level. -/
def elSuffix : EL → RegSuffix
  | .EL0 => .EL0
  | .EL1 => .EL1
  | .EL2 => .EL2
  | .EL3 => .EL3

/-- The level an exception is taken to: never EL0, never below the current level. -/
def excTarget (target cur : EL) : EL :=
  if cur.num < target.num then target else if cur = .EL0 then .EL1 else cur

/-- `SPSR_EL1_M32_from_EL1` of R204 (with R125). -/
def spsrEL1M32 (e : Eff) : BitVec 2 := if e.nv && (!e.nv1 || e.nv2) then 0b10#2 else 0b01#2

/-- What SPSR_ELx receives: the image of PSTATE, its M[3:2] as R125 and R204 say for an
exception taken from EL1 to EL1. -/
def savedImage (s : State) (tgt : EL) : Word :=
  if s.pstate.el = .EL1 ∧ tgt = .EL1 then s.pstate.imageWith (spsrEL1M32 (effNV s))
  else s.pstate.image

/-- The vector offset of a synchronous exception from AArch64: 0x400 from a lower level (R210),
otherwise by the stack pointer in use (assumption 17). -/
def vectorOffset (s : State) (tgt : EL) : Word :=
  if s.pstate.el.num < tgt.num then 0x400#64 else if s.pstate.sp then 0x200#64 else 0#64

/-- What ESR_ELx receives. -/
def esrAfter (s : State) : Syndrome → Word
  | .value ec iss => esrValue ec iss
  | .onlyVncr => s.free ||| 0x2000#64

/-- The state with FAR_ELx as an exception entry leaves it. -/
def farAfter (s : State) (tgt : EL) (u : FarUpdate) (t : State) : State :=
  match u with
  | .keep => t
  | .address a => t.setReg64 (s.draw + 5) ⟨.FAR, elSuffix tgt, 0⟩ a
  | .unstated => t.setReg64 (s.draw + 5) ⟨.FAR, elSuffix tgt, 0⟩ (Config.freeWord (s.draw + 1))

/-- Where execution resumes. -/
def vectorAfter (s : State) (tgt : EL) (v : VectorChoice) : Word :=
  match v with
  | .standard => s.reg ⟨.VBAR, elSuffix tgt, 0⟩ + vectorOffset s tgt
  | .unstated =>
    s.reg ⟨.VBAR, elSuffix tgt, 0⟩ + (Config.freeWord (s.draw + 2) &&& 0x780#64)

/-- Process state after entry (R213): EL, SP and D, A, I, F as the rule says; PAN, UAO, SSBS,
BTYPE, TCO, DIT are the base architecture's and so free (assumption 18); IL and SS clear. PRESUMED
(assumption 46): R213 speaks of entry to EL2, and an entry to EL1 or EL3 is taken the same way. -/
def entryPState (s : State) (tgt : EL) : PState :=
  let w := Config.freeWord (s.draw + 3)
  { el := tgt, sp := true, d := true, a := true, i := true, f := true, nzcv := s.pstate.nzcv,
    pan := w.getLsbD 0, uao := w.getLsbD 1, il := false, ss := false, ssbs := w.getLsbD 2,
    tco := w.getLsbD 3, dit := w.getLsbD 4, btype := w.extractLsb' 5 2 }

/-- Taking an exception (R200, R205, R213): ESR, FAR, ELR and SPSR of the level it is taken to,
process state, and the program counter at the vector. Nothing else changes but the count of
draws. The skeleton is R213's for EL2; that EL1 and EL3 have the same one is assumption 46. DESIGN CHOICE
(assumption 50): the current Security state stays, on an entry to EL3 too, where R33 makes it an input and
says nothing of a change. -/
def takeException (e : Exc) (s : State) : State :=
  let tgt := excTarget e.target s.pstate.el
  let t := s.setReg64 (s.draw + 4) ⟨.ESR, elSuffix tgt, 0⟩ (esrAfter s e.syndrome)
  let t := farAfter s tgt e.far t
  let t := t.setReg64 (s.draw + 6) ⟨.ELR, elSuffix tgt, 0⟩ e.ret
  let t := t.setReg64 (s.draw + 7) ⟨.SPSR, elSuffix tgt, 0⟩ (savedImage s tgt)
  { t with pc := vectorAfter s tgt e.vector, pstate := entryPState s tgt, draw := s.draw + 8 }

/-- "Trapped to EL2 and reported using EC syndrome value": `TakeToEL2` of R213 with no address;
the return address is the instruction itself. -/
def trapToEL2 (ec : BitVec 6) (iss : BitVec 25) (s : State) : State :=
  takeException { target := .EL2, syndrome := .value ec iss, far := .keep, ret := s.pc } s

/-- An exception to EL2 that reports an address: `TakeToEL2` of R213 with `far` (R205, R231). -/
def faultToEL2 (ec : BitVec 6) (iss : BitVec 25) (a : Word) (s : State) : State :=
  takeException { target := .EL2, syndrome := .value ec iss, far := .address a, ret := s.pc } s

/-- The level an exception of the base architecture goes to from here: EL1 from EL0 and EL1, EL2
when HCR_EL2.TGE is 1 (92 D27), the current level otherwise. -/
def baseTarget (s : State) : EL :=
  match s.pstate.el with
  | .EL0 => if effTGE s then .EL2 else .EL1
  | .EL1 => if effTGE s then .EL2 else .EL1
  | .EL2 => .EL2
  | .EL3 => .EL3

/-- UNDEFINED and unallocated (R100, R161, 92 D27): the Undefined Instruction exception, EC 0. -/
def undefinedInstr (s : State) : State :=
  takeException
    { target := baseTarget s, syndrome := .value 0#6 0#25, far := .keep, ret := s.pc } s

/-! ## Returning from an exception -/

/-- Whether an SPSR image names a state this PE can return to from its level (assumption 20):
AArch64, M[1] 0, a level that exists and is not above the current one, SP_EL0 at EL0. -/
def legalReturn (s : State) (v : Word) : Bool :=
  let lvl := EL.ofBits (v.extractLsb' 2 2)
  !v.getLsbD 4 && !v.getLsbD 1 && decide (lvl.num ≤ s.pstate.el.num) && s.cfg.hasEL lvl &&
    !(lvl == .EL0 && v.getLsbD 0)

/-- Process state after a return: what the SPSR image holds, or for an illegal one the same
level with PSTATE.IL set (assumption 20). -/
def returnPState (s : State) (v : Word) : PState :=
  if legalReturn s v then
    PState.ofImage v (EL.ofBits (v.extractLsb' 2 2)) (v.getLsbD 0) (v.getLsbD 20)
  else PState.ofImage v s.pstate.el s.pstate.sp true

/-- Exception return to an address: process state from SPSR of the current level. DESIGN CHOICE (assumption
50): the current Security state stays, on a return from EL3 too (R33 is silent). -/
def returnTo (addr : Word) (s : State) : State :=
  { s with pc := addr, pstate := returnPState s (s.reg ⟨.SPSR, elSuffix s.pstate.el, 0⟩) }

end Sys2Proof.Machine
end

