-- ==== Sys2Proof/Machine/Operands.lean ====
section
/-! DEFINITION. The operand forms: the register field Rt with its zero register, the even and
odd pair of MRRS and MSRR (R31), and the named registers as MRS and MSR read and write them when
nothing traps, redirects or transforms the access. -/

namespace Sys2Proof.Machine

/-- `x[t]`: register 31 reads as zero (R31). -/
def State.x (s : State) (t : BitVec 5) : Word :=
  if h : t.toNat < 31 then s.gpr[t.toNat] else 0#64

/-- `x[t] <- v`: a write to register 31 is discarded (R31). -/
def State.setX (s : State) (t : BitVec 5) (v : Word) : State :=
  if h : t.toNat < 31 then { s with gpr := s.gpr.set t.toNat v } else s

/-- The value of the pair Xt, Xt+1: Xt holds bits [63:0] (R31). -/
def State.xPair (s : State) (t : BitVec 5) : DWord := s.x (t + 1#5) ++ s.x t

/-- A write of the pair: `x[t] <- v[63:0] ; x[t+1] <- v[127:64]` (R166). -/
def State.setXPair (s : State) (t : BitVec 5) (v : DWord) : State :=
  (s.setX t (v.extractLsb' 0 64)).setX (t + 1#5) (v.extractLsb' 64 64)

/-- The registers that are views of process state or of the identification parameters; every
other name is its storage. -/
inductive RegView where
  | currentEL | pan | uao | idAA64MMFR4 | hcr | storage
  deriving DecidableEq, Repr

/-- How a name is read and written. -/
def regView (r : RegName) : RegView :=
  if r == ⟨.CurrentEL, .none, 0⟩ then .currentEL
  else if r == ⟨.PAN, .none, 0⟩ then .pan
  else if r == ⟨.UAO, .none, 0⟩ then .uao
  else if r == ⟨.ID_AA64MMFR4, .EL1, 0⟩ then .idAA64MMFR4
  else if r == ⟨.HCR, .EL2, 0⟩ then .hcr
  else .storage

/-- A word with one bit replaced. -/
def putBit (v : Word) (n : Nat) (b : Bool) : Word :=
  (v &&& ~~~(1#64 <<< n)) ||| ((BitVec.ofBool b).setWidth 64 <<< n)

/-- The 64-bit value a read of a register returns, and the state after it. CurrentEL reports the
level in bits [3:2] (R24); PAN reports the stored bit in bit 22 and 0 elsewhere (R26, vector B7c.8).
PRESUMED (assumption 12): UAO reports its stored bit in bit 23 and 0 elsewhere, where R26 gives bit 23 for an
SPSR image only and no vector states the read. A read of
HCR_EL2 whose NV1 is RES0 returns an unspecified bit 43 (93 U5), a free value. DESIGN CHOICE (assumption
49): every other bit that is RES0 in a register, such as bits [63:57] and [11:0] of VNCR_EL2 (R20), reads
back as it was last written. -/
def State.readReg (s : State) (r : RegName) : Word × State :=
  match regView r with
  | .currentEL => ((0#60 ++ s.pstate.el.bits ++ 0#2 : Word), s)
  | .pan => (putBit 0#64 22 s.pstate.pan, s)
  | .uao => (putBit 0#64 23 s.pstate.uao, s)
  | .idAA64MMFR4 => (s.cfg.idAA64MMFR4, s)
  | .hcr =>
    if nv1Res0 s.cfg then (putBit (s.reg r) 43 (s.free.getLsbD 0), s.drawn 1) else (s.reg r, s)
  | .storage => (s.reg r, s)

/-- A pair joins `TLBHeldNV` unless it is there. -/
def holdPair (p : Bool × Bool) (held : List (Bool × Bool)) : List (Bool × Bool) :=
  if p ∈ held then held else held ++ [p]

/-- A 64-bit write of the storage of a register, with a draw for the upper half of a 128-bit one
(assumption 26). -/
def State.store64 (s : State) (r : RegName) (v : Word) : State :=
  (s.setReg64 s.draw r v).drawn 1

/-- A 64-bit write of a register. A write of HCR_EL2 that changes the resolved pair (nv, nv1)
leaves the old pair in `TLBHeldNV` (R35, R44, R266; assumption 9); HCR_EL2 is no 128-bit register, since
its slot at 0x78 is not aligned to 16 bytes (R62). DESIGN CHOICE (assumption 56): the write of any System
register takes effect at the next instruction (R261). -/
def State.writeReg (s : State) (r : RegName) (v : Word) : State :=
  match regView r with
  | .currentEL => s
  | .pan => { s with pstate := { s.pstate with pan := v.getLsbD 22 } }
  | .uao => { s with pstate := { s.pstate with uao := v.getLsbD 23 } }
  | .idAA64MMFR4 => s
  | .hcr =>
    let t := s.setReg r v
    if (effNV t).nv = (effNV s).nv ∧ (effNV t).nv1 = (effNV s).nv1 then t
    else { t with tlbHeldNV := holdPair ((effNV s).nv, (effNV s).nv1) s.tlbHeldNV }
  | .storage => s.store64 r v

end Sys2Proof.Machine
end

