-- ==== Sys2Proof/Machine/Translate.lean ====
section
/-! DEFINITION. Translation: what `Base.Translate` answers for a page (R208), the permission bits
of stage 1 descriptors with the changes HCR_EL2.NV1 makes to six of them (R41 to R48), the TLB's
copies of NV and NV1 (R44, R266), and the permission checks. -/

namespace Sys2Proof.Machine

/-! ## Descriptor bits (R42 to R48, summary table of 20_memory.md) -/

/-- PXN of a Block or Page descriptor: bit 53, bit 54 under NV1 (R42, R43). -/
def leafPXN (nv1 : Bool) (d : Word) : Bool := if nv1 then d.getLsbD 54 else d.getLsbD 53

/-- UXN of a Block or Page descriptor: bit 54, open under NV1 (R42, 92 D20). -/
def leafUXN (nv1 : Bool) (d : Word) : Option Bool := if nv1 then none else some (d.getLsbD 54)

/-- AP[1] of a Block or Page descriptor: bit 6, "treated as 0" under NV1 (R45). -/
def leafAP1 (nv1 : Bool) (d : Word) : Bool := if nv1 then false else d.getLsbD 6

/-- AP[2] of a Block or Page descriptor: bit 7, unchanged (R45). -/
def leafAP2 (d : Word) : Bool := d.getLsbD 7

/-- PXNTable: bit 59, bit 60 under NV1 (R47, R48). -/
def tablePXN (nv1 : Bool) (d : Word) : Bool := if nv1 then d.getLsbD 60 else d.getLsbD 59

/-- UXNTable: bit 60; under NV1 that bit is PXNTable and there is none (R47, 92 D20). -/
def tableUXN (nv1 : Bool) (d : Word) : Bool := if nv1 then false else d.getLsbD 60

/-- APTable[0]: bit 61, "treated as 0" under NV1 (R46). -/
def tableAP0 (nv1 : Bool) (d : Word) : Bool := if nv1 then false else d.getLsbD 61

/-- APTable[1]: bit 62, unchanged (R46). -/
def tableAP1 (d : Word) : Bool := d.getLsbD 62

/-- The permissions a stage 1 walk yields. -/
structure Perms where
  /-- Unprivileged execute-never; none where the source leaves it open (R42, 92 D20). -/
  uxn : Option Bool
  pxn : Bool
  /-- Accessible from EL0. -/
  ap1 : Bool
  /-- Read-only. -/
  ap2 : Bool
  deriving DecidableEq, Repr

/-- The permissions of a page: the descriptor's own bits, restricted by the Table descriptors
when hierarchical permissions are enabled (R46). -/
def permsOf (nv1 hierarchical : Bool) (tables : List Word) (leaf : Word) : Perms :=
  let ts := if hierarchical then tables else []
  { uxn := (leafUXN nv1 leaf).map (fun b => b || ts.any (tableUXN nv1))
    pxn := leafPXN nv1 leaf || ts.any (tablePXN nv1)
    ap1 := leafAP1 nv1 leaf && !ts.any (tableAP0 nv1)
    ap2 := leafAP2 leaf || ts.any tableAP1 }

/-- Whether hierarchical permissions are enabled for an address (R46; the bits of TCR_EL1 and
TCR_EL2 are assumption 8). DESIGN CHOICE (assumption 56): it reads the register as the last write left it,
with no Context synchronization event in between; 92 D28 settles this for HCR_EL2, VNCR_EL2 and SCTLR_EL2
alone (R261). -/
def hierarchicalEnabled (s : State) (g : Regime) (va : Word) : Bool :=
  match g with
  | .el10 => !(s.reg ⟨.TCR, .EL1, 0⟩).getLsbD (if va.getLsbD 55 then 42 else 41)
  | .el20 => !(s.reg ⟨.TCR, .EL2, 0⟩).getLsbD (if va.getLsbD 55 then 42 else 41)
  | .el2 => !(s.reg ⟨.TCR, .EL2, 0⟩).getLsbD 24

/-! ## Translation -/

/-- Bits [63:12] of a virtual address. -/
def pageOf (va : Word) : BitVec 52 := va.extractLsb' 12 52

/-- What the walk finds for an address: the entry listed for its page, else the page itself, at level 3,
with the descriptor 0. DESIGN CHOICE (assumption 7): such a page may be read, written and executed at the
privileged level of its regime and executed at EL0, and since AP[1] of the descriptor 0 is 0 no data access
from EL0 is permitted to it, so AT S1E0R and S1E0W always set bit 0 of PAR_EL1 there (R136, R137). -/
def walk (s : State) (g : Regime) (va : Word) : WalkResult :=
  match s.mappings.find? (fun m => m.regime == g && m.vpage == pageOf va) with
  | some m => m.result
  | none => .page (pageOf va) 3#2 [] 0#64 true false

/-- The physical address of a virtual address in an output page: 64 bits, the low 12 of them the
address's own (DESIGN CHOICE, assumption 7: R40 gives neither a physical address size nor a granule). -/
def physical (out : BitVec 52) (va : Word) : Nat := (out ++ va.extractLsb' 0 12).toNat

/-- The regime of a transformed access, by the Effective value of HCR_EL2.E2H (R54). -/
def el2Regime (s : State) : Regime := if effE2H s then .el20 else .el2

/-- The status code of a permission fault at a level (R209: 0x0F at level 3). -/
def permissionFault (level : BitVec 2) : BitVec 6 := 0b0011#4 ++ level

/-- The pairs that a translation may still be using (R35, R44): those of `TLBHeldNV`, and none without
FEAT_NV (R2) or while EL2 is disabled, when "no rule of this spec fires" (92 D21). -/
def usableHeldNV (s : State) : List (Bool × Bool) :=
  if s.cfg.haveNV && s.cfg.el2Enabled then s.tlbHeldNV else []

/-- Whether an EL1&0 translation reads descriptors as under NV1: the current condition, or that
of any pair a TLB may still hold, and which is open (R44, R266, 92 D18). -/
def descriptorReading (s : State) : Bool × State :=
  match usableHeldNV s with
  | [] => (nv1Active s, s)
  | p :: ps =>
    let readings := nv1Active s :: (p :: ps).map (fun q => q.1 && q.2)
    (readings.getD (s.free.toNat % readings.length) (nv1Active s), s.drawn 1)

/-- The reading of descriptors in a regime: only the EL1&0 regime is changed (R42 to R48). -/
def regimeReading (s : State) (g : Regime) : Bool × State :=
  match g with
  | .el10 => descriptorReading s
  | _ => (false, s)

/-- Whether a data access is permitted: `priv` at the privileged level of the regime, `pan` the
value of PAN that applies to it (R45, R56, assumption 8). -/
def dataPermitted (p : Perms) (priv pan : Bool) (dir : Dir) : Bool :=
  (if priv then !(pan && p.ap1) else p.ap1) && (dir == .read || !p.ap2)

/-- What a stage 1 translation answers. -/
inductive Xlat where
  | fault (fsc : BitVec 6)
  | ok (pa : Nat) (perms : Perms) (level : BitVec 2) (writeBack externalAbort : Bool)
  deriving DecidableEq, Repr

/-- A stage 1 translation under one reading of the descriptors. -/
def translate (s : State) (g : Regime) (nv1 : Bool) (va : Word) : Xlat :=
  match walk s g va with
  | .fault fsc => .fault fsc
  | .page out level tables leaf wb ea =>
    .ok (physical out va) (permsOf nv1 (hierarchicalEnabled s g va) tables leaf) level wb ea

end Sys2Proof.Machine
end

