-- ==== Sys2Proof/Machine/Vncr.lean ====
section
/-! DEFINITION. The memory access that replaces a transformed register access: its address
(R52), its attributes (R53 to R64), the events it can meet (R205 to R214, R227 to R232) and what
the other units of the PE see of it (R226, R233 to R235). -/

namespace Sys2Proof.Machine

/-- Sign extension of the low `n` bits of a word, n from 1 to 64. -/
def signExtendFrom (n : Nat) (v : Word) : Word := (v <<< (64 - n)).sshiftRight (64 - n)

/-- `VncrAddress` of R52: BADDR concatenated with the offset, sign-extended from BADDR's top bit. -/
def vncrAddress (s : State) (off : BitVec 12) : Word :=
  signExtendFrom (s.cfg.baddrHi + 1)
    ((s.reg ⟨.VNCR, .EL2, 0⟩ &&& 0xFFFFFFFFFFFFF000#64) ||| off.setWidth 64)

/-- SCTLR_EL2.EE, 1 for big-endian (R21, R55). -/
def vncrBigEndian (s : State) : Bool := (s.reg ⟨.SCTLR, .EL2, 0⟩).getLsbD 25

/-! ## Watchpoints -/

/-- The bytes of an access that a watchpoint watches, lowest first. -/
def watchedBytes (w : Watchpoint) (va : Word) (size : Nat) : List Word :=
  ((List.range size).map (fun k => va + BitVec.ofNat 64 k)).filter
    (fun a => decide (w.base.toNat ≤ a.toNat) && decide (a.toNat < w.base.toNat + w.size))

/-- `Base.WatchpointMatch` for an access made at EL2 (R227): programmed to match EL2 and the
direction, on a byte of the access. -/
def watchpointMatches (w : Watchpoint) (va : Word) (size : Nat) (dir : Dir) : Bool :=
  w.matchEL2 && (match dir with | .read => w.loads | .write => w.stores) &&
    !(watchedBytes w va size).isEmpty

/-- The address a match reports: the only watched byte, or a free one of several (R231). -/
def pickWatched (s : State) (bs : List Word) : Option Word :=
  match bs with
  | [] => none
  | [b] => some b
  | b :: bs => some ((b :: bs).getD ((Config.freeWord (s.draw + 1)).toNat % (b :: bs).length) b)

/-- `VncrWatchpointMatch` of R228: the watched address if there is a match, and the state after
the draws. A watchpoint linked to a breakpoint on CONTEXTIDR_EL1 or VMID matches or not by a
free draw. DESIGN CHOICE (assumption 29): where several watchpoints match one access, the address is a byte
that the first of them in the order of the list watches (R231 is silent). -/
def vncrWatchpoint (s : State) (va : Word) (size : Nat) (dir : Dir) :
    List Watchpoint → Option Word × State
  | [] => (none, s)
  | w :: rest =>
    if watchpointMatches w va size dir && (!w.linkedContext || s.free.getLsbD 0) then
      (pickWatched s (watchedBytes w va size), s.drawn 2)
    else vncrWatchpoint (s.drawn 2) va size dir rest

/-! ## The access -/

/-- What an access comes to: it completes at a physical address (and the memory may be
Write-back Cacheable), or it took an exception or halted the PE. -/
inductive VncrResult where
  | completes (pa : Nat) (writeBack : Bool) (s : State)
  | stops (s : State)
  deriving DecidableEq, Repr

/-- The state after a watchpoint match: halting (R229), a Watchpoint exception (R230 to R232), or
none where neither rule applies. -/
def watchpointEvent (s : State) (a : Word) (dir : Dir) : Option State :=
  if s.dbg.osLockUnlocked && s.dbg.hde && s.dbg.haltingAllowed then
    some { s with dbg := { s.dbg with halted := true } }
  else if s.dbg.osLockUnlocked && s.dbg.debugExceptionsEL2 then
    some (faultToEL2 0x35#6 (issVncr dir 0b100010#6) a s)
  else none

/-- The state after a synchronous External abort on a transformed access (R211, R212): to EL2
with EC 0x25 and FAR_EL2 not stated, or to EL3 with only VNCR stated. -/
def externalAbort (s : State) (dir : Dir) : State :=
  if s.cfg.haveEL3 && s.cfg.eaToEL3 then
    takeException
      { target := .EL3, syndrome := .onlyVncr, far := .unstated, ret := s.pc,
        vector := .unstated } s
  else
    takeException
      { target := .EL2, syndrome := .value 0x25#6 (issVncr dir 0b010000#6), far := .unstated,
        ret := s.pc } s

/-- The checks of an access in their order (R214): Data Abort (R205 to R209), watchpoint,
External abort (assumption 28). It is an EL2 access of the EL2 or EL2&0 regime with PAN taken
as 0 (R53, R54, R56). DESIGN CHOICE (assumption 28): a synchronous External abort on the table walk of the
access is one of the faults that the walk can answer, so it is a Data Abort taken to EL2 that writes FAR_EL2,
also where External aborts are configured to be taken to EL3; R205 and R211 do not speak of it. -/
def vncrAccess (s : State) (off : BitVec 12) (size : Nat) (dir : Dir) : VncrResult :=
  let va := vncrAddress s off
  match translate s (el2Regime s) false va with
  | .fault fsc => .stops (faultToEL2 0x25#6 (issVncr dir fsc) va s)
  | .ok pa perms level wb ea =>
    if dataPermitted perms true false dir then
      let (hit, s1) := vncrWatchpoint s va size dir s.dbg.watchpoints
      match hit.bind (fun a => watchpointEvent s1 a dir) with
      | some t => .stops t
      | none => if ea then .stops (externalAbort s1 dir) else .completes pa wb s1
    else .stops (faultToEL2 0x25#6 (issVncr dir (permissionFault level)) va s)

/-- The single-copy atomic parts of an access: the whole of it, or its two halves when it has 16
bytes, the memory is not Write-back Cacheable and the implementation chose so (R57, R61). -/
def accessParts (s : State) (va : Word) (size : Nat) (wb : Bool) : List (Word × Nat) :=
  if size = 16 ∧ wb = false ∧ s.cfg.cu128NonWB = .atomic64 then [(va, 8), (va + 8#64, 8)]
  else [(va, size)]

/-- What the Statistical Profiling Unit records of a transformed access when it selects the instruction,
whether or not the access completes: a Load/Store record (R234), with the address only while profiling is
enabled at EL2 (R227, R235). -/
def profileRecord (s : State) (off : BitVec 12) : List Event :=
  if s.profiling.selects then
    [.profiled (if s.profiling.enabledEL2 then some (vncrAddress s off) else none)]
  else []

/-- What the other units see of a completed access: its atomic parts, without Acquire or Release
semantics, as EL2 accesses (R53 to R59); a Memory-read or Memory-write operation filtered at EL1
(R226, R233); the profiling record. DESIGN CHOICE (assumption 33): a 16-byte access that is made in two
halves counts as one operation, where R233 gives no number. -/
def vncrEvents (s : State) (off : BitVec 12) (size : Nat) (dir : Dir) (wb : Bool) : List Event :=
  (accessParts s (vncrAddress s off) size wb).map
      (fun p => .access p.1 p.2 dir .EL2 (el2Regime s) false) ++
    [.pmuMemory dir .EL1] ++ profileRecord s off

/-- What a transformed read comes to: a number of `size` bytes in the order of SCTLR_EL2.EE and
the state after the access, or the state after the exception. -/
inductive VncrRead where
  | value (v : Nat) (s : State)
  | stops (s : State)
  deriving DecidableEq, Repr

/-- What a transformed write comes to: the state after the access or after the exception. -/
inductive VncrWrite where
  | done (s : State)
  | stops (s : State)
  deriving DecidableEq, Repr

/-- `VncrRead64` of R158 and its 16-byte form (R166); a profiled access that stops is recorded (R234).
DESIGN CHOICE (assumption 57): memory is one, by physical address, whatever the attributes of the mapping that
the access goes through (R268 leaves mismatched attributes of an alias to the base architecture). -/
def vncrRead (s : State) (off : BitVec 12) (size : Nat) : VncrRead :=
  match vncrAccess s off size .read with
  | .stops t => .stops (t.record (profileRecord s off))
  | .completes pa wb t =>
    .value (natOfBytes (vncrBigEndian s) (s.mem.readBytes pa size))
      (t.record (vncrEvents s off size .read wb))

/-- `VncrWrite64` of R159 and its 16-byte form (R166): an access that stops writes nothing and, if it is
profiled, is recorded (R234). One memory by physical address, as for `vncrRead` (assumption 57). -/
def vncrWrite (s : State) (off : BitVec 12) (size : Nat) (v : Nat) : VncrWrite :=
  match vncrAccess s off size .write with
  | .stops t => .stops (t.record (profileRecord s off))
  | .completes pa wb t =>
    .done { t.record (vncrEvents s off size .write wb) with
      mem := s.mem.writeBytes pa (bytesOfNat (vncrBigEndian s) size v) }

end Sys2Proof.Machine
end

