-- ==== Sys2Proof/Machine/Classify.lean ====
section
/-! DEFINITION. The classifier of R170: whether an access or operation is trapped, redirected,
transformed, read as a constant or left to the base architecture, with the oracles it asks
(R101, R161, R163). -/

namespace Sys2Proof.Machine

/-- The result type of the classification functions (00_scope.md section 6.2). -/
inductive AccessOutcome where
  | unchanged
  | trapEL2 (ec : BitVec 6)
  | readAs (v : Word)
  | redirect (r : RegName)
  | transform (off : BitVec 12)
  | unallocated
  | unspecified
  deriving DecidableEq, Repr

/-! ## Oracles -/

/-- `Implemented` (R161). -/
def implemented (c : Config) (r : RegName) : Bool :=
  if r.base = .other then c.alsoImplemented.contains r else !c.notImplemented.contains r

/-- Registers that cannot be written: CurrentEL (R24), ID_AA64MMFR4_EL1 (R13) and what the
implementation adds. -/
def readOnlyReg (c : Config) (r : RegName) : Bool :=
  r == ⟨.CurrentEL, .none, 0⟩ || r == ⟨.ID_AA64MMFR4, .EL1, 0⟩ || c.readOnly.contains r

/-- `UndefAtEL2` (R101): the implementation's list, a write to a read-only register, or a
register accessible only from EL3. -/
def undefAtEL2 (s : State) (r : RegName) (dir : Dir) : Bool :=
  s.cfg.undefAtEL2.contains (r, dir, s.sec) || (dir == .write && readOnlyReg s.cfg r) ||
    decide (2 < (minEL r).num)

/-- `EL3TrapHigher` (R101). -/
def el3TrapHigher (s : State) (r : RegName) (dir : Dir) : Bool :=
  s.cfg.haveEL3 && s.cfg.el3Traps.contains (r, dir)

/-- Whether an entry of `OtherTrap` is due for this access now. -/
def otherTrapDue (s : State) (k : TrapKey) (o : OtherTrap) : Bool :=
  o.key == k && o.fromEL == s.pstate.el && s.cfg.hasEL o.target &&
    (match o.control with
     | none => true
     | some (r, bit) => (s.reg r).getLsbD bit)

/-- `OtherTrap` (R163): the first entry that is due. -/
def otherTrap (s : State) (k : TrapKey) : Option OtherTrap :=
  s.cfg.otherTraps.find? (otherTrapDue s k)

/-! ## Register accesses -/

/-- `NVTrapFires` of R107. -/
def nvTrapFires (s : State) (r : RegName) (dir : Dir) : Bool :=
  s.pstate.el == .EL1 && (effNV s).nv && nvTrapSet r && !undefAtEL2 s r dir &&
    !el3TrapHigher s r dir

/-- `NV1TrapFires` of R124, with the choice `TrapOnly` (R129). -/
def nv1TrapFires (s : State) (r : RegName) : Bool :=
  s.pstate.el == .EL1 && (((effNV s).nv && (effNV s).nv1) || (effNV s).trapOnly) && nv1Set r &&
    (r != ⟨.SCXTNUM, .EL1, 0⟩ || implemented s.cfg r)

/-- `NV2Active` of R147. -/
def nv2Active (s : State) : Bool := s.pstate.el == .EL1 && (effNV s).nv && (effNV s).nv2

/-- `TransformOffset` of R155. -/
def transformOffset (s : State) (r : RegName) : Option (BitVec 12) :=
  if nv2Active s && implemented s.cfg r && !eventStreamReg r (effNV s).nv1 then
    vncrOffset s.cfg.row298 r (effNV s).nv1
  else none

/-- What the oracle `OtherTrap` says of a register access (R163): "a trap to EL3" is one of the traps the
rule names, so an entry of `EL3TrapHigher` is an answer too (DEDUCED, assumption 48). -/
def otherTrapOn (s : State) (r : RegName) (dir : Dir) : Bool :=
  (otherTrap s (.reg r dir)).isSome || el3TrapHigher s r dir

/-- The last part of R170: transformation before the traps (R163, R165), then the traps (R101,
R124, R130). -/
def classifyTail (s : State) (r : RegName) (dir : Dir) (is128 : Bool) : AccessOutcome :=
  match transformOffset s r with
  | some off =>
    if nvTrapSet r || nv1Set r then
      if nvTrapFires s r dir || nv1TrapFires s r then .transform off else .unchanged
    else if otherTrapOn s r dir then .unchanged else .transform off
  | none =>
    if nvTrapFires s r dir || nv1TrapFires s r then
      if is128 then .unspecified else .trapEL2 0x18#6
    else .unchanged

/-- `ClassifyRegAccess` of R170; without FEAT_NV "every outcome is `Unchanged`" (R2). -/
def classifyRegAccess (s : State) (r : RegName) (dir : Dir) (is128 : Bool) : AccessOutcome :=
  if s.pstate.el ≠ .EL1 ∨ s.cfg.el2Enabled = false ∨ s.cfg.haveNV = false then .unchanged
  else if is128 && !isReg128 s.cfg r then .unchanged
  else if !implemented s.cfg r then .unallocated
  else if r = ⟨.CurrentEL, .none, 0⟩ ∧ dir = .read ∧ (effNV s).nv = true then .readAs 0x8#64
  else if (effNV s).nv && (effNV s).nv2 then
    match redirectTarget r with
    | some r' => if is128 then .unspecified else .redirect r'
    | none => classifyTail s r dir is128
  else classifyTail s r dir is128

/-! ## The other instructions (`ClassifyInsn` of R170) -/

/-- `ATEL2Only` of R110; S1E2A only with FEAT_ATS1A (R117). -/
def atEL2Only (c : Config) (op : AtOp) : Bool :=
  match op with
  | .S1E2R => true
  | .S1E2W => true
  | .S12E1R => true
  | .S12E1W => true
  | .S12E0R => true
  | .S12E0W => true
  | .S1E2A => c.haveATS1A
  | _ => false

/-- `HCRAT_Set` of R135. -/
def hcrAtSet (c : Config) (op : AtOp) : Bool :=
  match op with
  | .S1E0R => true
  | .S1E0W => true
  | .S1E1R => true
  | .S1E1W => true
  | .S1E1RP => true
  | .S1E1WP => true
  | .S1E1A => c.haveATS1A
  | _ => false

/-- Whether the PE is at EL1 with EL2 enabled, the premise of every trap (R131, 92 D21). -/
def underEL2 (s : State) : Bool := s.pstate.el == .EL1 && s.cfg.el2Enabled

/-- The trap of an AT operation: by NV (R110) or by HCR_EL2.AT (R135). -/
def atTrapped (s : State) (op : AtOp) : Bool :=
  underEL2 s && (((effNV s).nv && atEL2Only s.cfg op) || (effAT s && hcrAtSet s.cfg op))

/-- The trap of a TLBI operation that is implemented and accessible only from EL2 (R118). -/
def tlbiTrapped (s : State) (memberOfClass : Bool) : Bool :=
  underEL2 s && (effNV s).nv && memberOfClass

/-- The trap of ERET, ERETAA and ERETAB (R120 to R122). -/
def eretTrapped (s : State) : Bool := underEL2 s && (effNV s).nv

/-- The trap of SMC (R119). -/
def smcTrapped (s : State) : Bool :=
  underEL2 s && (effNV s).nv && !s.cfg.haveEL3 && effTSC s

end Sys2Proof.Machine
end

