-- ==== Sys2Proof/Machine/Base.lean ====
section
/-! DEFINITION. What `Unchanged` hands to the base architecture (92 D1), as far as the spec says
it: the register itself is accessed (R30, R160), an access the level may not make is UNDEFINED
(R100, R161), and the traps of the oracles are taken (R101, R163). -/

namespace Sys2Proof.Machine

/-- A trap of the base architecture with the syndrome of the trapped instruction. -/
def takeOtherTrap (o : OtherTrap) (iss : BitVec 25) (s : State) : State :=
  takeException
    { target := o.target, syndrome := .value o.ec (o.iss.getD iss), far := .keep, ret := s.pc } s

/-- A trap of a register access to EL3 (R101; its class is assumption 16). -/
def trapToEL3 (iss : BitVec 25) (s : State) : State :=
  takeException { target := .EL3, syndrome := .value 0x18#6 iss, far := .keep, ret := s.pc } s

/-- Whether an access gets as far as the traps to EL3: the level may make it, or it is one that
NV makes EL1 able to attempt (R101). DESIGN CHOICE (assumption 14): so an access from EL1 to a register of
EL2 that is UNDEFINED at EL2 and listed in EL3TrapHigher too is UNDEFINED and not trapped to EL3, where R101,
R165 and N3 give no order of the two. -/
def reachesEL3Trap (s : State) (r : RegName) (dir : Dir) : Bool :=
  decide ((minEL r).num ≤ s.pstate.el.num) ||
    (underEL2 s && (effNV s).nv && nvTrapSet r && !undefAtEL2 s r dir)

/-- Whether the access is UNDEFINED at the current level (R100, R101; assumption 13). -/
def undefinedHere (s : State) (r : RegName) (dir : Dir) : Bool :=
  decide (s.pstate.el.num < (minEL r).num) || (dir == .write && readOnlyReg s.cfg r) ||
    (s.pstate.el == .EL2 && undefAtEL2 s r dir)

/-- The exception that the base architecture takes instead of a register access, if any, in the
order of assumption 14 (DESIGN CHOICE): absent register, trap to EL3 of an access that reaches it, UNDEFINED,
another trap. MRRS and MSRR meet the same traps with the same syndrome (assumption 15). -/
def baseGate (s : State) (e : SysEnc) (r : RegName) (rt : BitVec 5) (dir : Dir) : Option State :=
  if !implemented s.cfg r then some (undefinedInstr s)
  else if s.pstate.el ≠ .EL3 ∧ reachesEL3Trap s r dir ∧ el3TrapHigher s r dir then
    some (trapToEL3 (issSysreg e rt dir) s)
  else if undefinedHere s r dir then some (undefinedInstr s)
  else
    match otherTrap s (.reg r dir) with
    | some o => some (takeOtherTrap o (issSysreg e rt dir) s)
    | none => none

/-- A 64-bit read of a register by the base architecture. -/
def baseRead (e : SysEnc) (r : RegName) (rt : BitVec 5) (s : State) : State :=
  match baseGate s e r rt .read with
  | some t => t
  | none => (((s.readReg r).2).setX rt (s.readReg r).1).advance

/-- A 64-bit write of a register by the base architecture. -/
def baseWrite (e : SysEnc) (r : RegName) (rt : BitVec 5) (s : State) : State :=
  match baseGate s e r rt .write with
  | some t => t
  | none => (s.writeReg r (s.x rt)).advance

/-- A 128-bit read of a register by the base architecture; UNDEFINED for any other register. -/
def baseRead128 (e : SysEnc) (r : RegName) (rt : BitVec 5) (s : State) : State :=
  if !isReg128 s.cfg r then undefinedInstr s
  else
    match baseGate s e r rt .read with
    | some t => t
    | none => (s.setXPair rt (s.reg128 r)).advance

/-- A 128-bit write of a register by the base architecture; UNDEFINED for any other register. -/
def baseWrite128 (e : SysEnc) (r : RegName) (rt : BitVec 5) (s : State) : State :=
  if !isReg128 s.cfg r then undefinedInstr s
  else
    match baseGate s e r rt .write with
    | some t => t
    | none => (s.setReg128 r (s.xPair rt)).advance

/-- The exception that the base architecture takes instead of a SYS operation, if any: the
feature is absent, the level is too low (R100), or another trap is due; UNDEFINED before another trap is
the model's order (DESIGN CHOICE, assumption 14). -/
def baseSysGate (s : State) (present : Bool) (lowest : EL) (op : SysOp) (rt : BitVec 5) :
    Option State :=
  if !present then some (undefinedInstr s)
  else if s.pstate.el.num < lowest.num then some (undefinedInstr s)
  else
    match otherTrap s (.sys op) with
    | some o => some (takeOtherTrap o (issSys op rt) s)
    | none => none

end Sys2Proof.Machine
end

