-- ==== Sys2Proof/Machine/AddrTrans.lean ====
section
/-! DEFINITION. The address translation instructions: their traps (R110 to R117, R135 to R142)
and, when none is taken, the translation of the base architecture, which writes PAR_EL1. -/

namespace Sys2Proof.Machine

/-- Whether the feature of an operation is implemented (R78). -/
def atPresent (c : Config) (op : AtOp) : Bool :=
  match op with
  | .S1E1RP => c.havePAN2
  | .S1E1WP => c.havePAN2
  | .S1E1A => c.haveATS1A
  | .S1E2A => c.haveATS1A
  | _ => true

/-- The lowest level an operation is accessible from (R78). -/
def atLowest (op : AtOp) : EL :=
  match op with
  | .S1E1R => .EL1
  | .S1E1W => .EL1
  | .S1E0R => .EL1
  | .S1E0W => .EL1
  | .S1E1RP => .EL1
  | .S1E1WP => .EL1
  | .S1E1A => .EL1
  | _ => .EL2

/-- The regime whose stage 1 an operation translates with. DESIGN CHOICE (assumption 47): the operations
of stage 1 EL0 and EL1, and of both stages, use the EL1&0 regime at every level, with HCR_EL2.E2H and TGE
both 1 too; the spec says nothing of that case. PRESUMED (assumption 53): S1E2R, S1E2W and S1E2A use the
EL2&0 regime while HCR_EL2.E2H is 1 and the EL2 regime otherwise; R111 to R117 give no more than their
operand and their trap. -/
def atRegime (s : State) (op : AtOp) : Regime :=
  match op with
  | .S1E2R => el2Regime s
  | .S1E2W => el2Regime s
  | .S1E2A => el2Regime s
  | _ => .el10

/-- Whether an operation translates for the privileged level of its regime (R136 to R141). PRESUMED
(assumption 53) for the operations of EL2: S12E0R and S12E0W translate for EL0, the others for the
privileged level. -/
def atPrivileged (op : AtOp) : Bool :=
  match op with
  | .S1E0R => false
  | .S1E0W => false
  | .S12E0R => false
  | .S12E0W => false
  | _ => true

/-- The direction an operation checks (R136 to R141). PRESUMED (assumption 53) for the operations of EL2:
a name that ends in R reads and one that ends in W writes. -/
def atDir (op : AtOp) : Dir :=
  match op with
  | .S1E1W => .write
  | .S1E0W => .write
  | .S1E1WP => .write
  | .S1E2W => .write
  | .S12E1W => .write
  | .S12E0W => .write
  | _ => .read

/-- PSTATE.PAN as an operation applies it: only S1E1RP and S1E1WP do, and under `NV1Active` it
is "treated as 0" (R49, R140, R141). -/
def atPAN (s : State) (op : AtOp) : Bool :=
  match op with
  | .S1E1RP => effPAN s
  | .S1E1WP => effPAN s
  | _ => false

/-- Whether an operation checks permissions: S1E1A does not (R142). DEDUCED (assumption 53): neither does
S1E2A, of which R142 does not speak. -/
def atChecks (op : AtOp) : Bool :=
  match op with
  | .S1E1A => false
  | .S1E2A => false
  | _ => true

/-- Whether an operation goes on through stage 2, of which the source says nothing (R40). -/
def atStage2 (op : AtOp) : Bool :=
  match op with
  | .S12E1R => true
  | .S12E1W => true
  | .S12E0R => true
  | .S12E0W => true
  | _ => false

/-- Whether the stage 1 translation of an operation faults, under one reading of descriptors. -/
def stage1Faults (s : State) (op : AtOp) (nv1 : Bool) (va : Word) : Bool :=
  match translate s (atRegime s op) nv1 va with
  | .fault _ => true
  | .ok _ p _ _ _ =>
    atChecks op && !dataPermitted p (atPrivileged op) (atPAN s op) (atDir op)

/-- The translation of the base architecture: PAR_EL1 is written (vectors B4.9, P4). Its bit 0
says whether the translation faulted (assumption 23); every other bit, the upper half where PAR_EL1 is a
128-bit register among them, and what stage 2 adds, is not stated and so free. -/
def translateToPAR (s : State) (op : AtOp) (va : Word) : State :=
  let (nv1, t) := regimeReading s (atRegime s op)
  let faulted := stage1Faults s op nv1 va || (atStage2 op && t.free.getLsbD 0)
  (t.drawn 1).store64 ⟨.PAR, .EL1, 0⟩ (putBit t.free 0 faulted)

/-- An AT operation: the trap of R110 or R135, else the base architecture. -/
def addressTranslation (op : AtOp) (enc : SysOp) (rt : BitVec 5) (s : State) : Res :=
  .next <|
    if atTrapped s op then trapToEL2 0x18#6 (issSys enc rt) s
    else
      match baseSysGate s (atPresent s.cfg op) (atLowest op) enc rt with
      | some t => t
      | none => (translateToPAR s op (s.x rt)).advance

/-- `AT S1E1R, <Xt>` (R138): word 0xD5087800 with Xt. -/
def execAtS1E1R (rt : BitVec 5) (s : State) : Res :=
  addressTranslation .S1E1R ⟨0#3, 7#4, 8#4, 0#3⟩ rt s

/-- `AT S1E1W, <Xt>` (R139): word 0xD5087820 with Xt. -/
def execAtS1E1W (rt : BitVec 5) (s : State) : Res :=
  addressTranslation .S1E1W ⟨0#3, 7#4, 8#4, 1#3⟩ rt s

/-- `AT S1E0R, <Xt>` (R136): word 0xD5087840 with Xt. -/
def execAtS1E0R (rt : BitVec 5) (s : State) : Res :=
  addressTranslation .S1E0R ⟨0#3, 7#4, 8#4, 2#3⟩ rt s

/-- `AT S1E0W, <Xt>` (R137): word 0xD5087860 with Xt. -/
def execAtS1E0W (rt : BitVec 5) (s : State) : Res :=
  addressTranslation .S1E0W ⟨0#3, 7#4, 8#4, 3#3⟩ rt s

/-- `AT S1E1RP, <Xt>` (R140): word 0xD5087900 with Xt. -/
def execAtS1E1RP (rt : BitVec 5) (s : State) : Res :=
  addressTranslation .S1E1RP ⟨0#3, 7#4, 9#4, 0#3⟩ rt s

/-- `AT S1E1WP, <Xt>` (R141): word 0xD5087920 with Xt. -/
def execAtS1E1WP (rt : BitVec 5) (s : State) : Res :=
  addressTranslation .S1E1WP ⟨0#3, 7#4, 9#4, 1#3⟩ rt s

/-- `AT S1E1A, <Xt>` (R142): word 0xD5087940 with Xt. -/
def execAtS1E1A (rt : BitVec 5) (s : State) : Res :=
  addressTranslation .S1E1A ⟨0#3, 7#4, 9#4, 2#3⟩ rt s

/-- `AT S1E2R, <Xt>` (R111): word 0xD50C7800 with Xt. -/
def execAtS1E2R (rt : BitVec 5) (s : State) : Res :=
  addressTranslation .S1E2R ⟨4#3, 7#4, 8#4, 0#3⟩ rt s

/-- `AT S1E2W, <Xt>` (R112): word 0xD50C7820 with Xt. -/
def execAtS1E2W (rt : BitVec 5) (s : State) : Res :=
  addressTranslation .S1E2W ⟨4#3, 7#4, 8#4, 1#3⟩ rt s

/-- `AT S12E1R, <Xt>` (R113): word 0xD50C7880 with Xt. -/
def execAtS12E1R (rt : BitVec 5) (s : State) : Res :=
  addressTranslation .S12E1R ⟨4#3, 7#4, 8#4, 4#3⟩ rt s

/-- `AT S12E1W, <Xt>` (R114): word 0xD50C78A0 with Xt. -/
def execAtS12E1W (rt : BitVec 5) (s : State) : Res :=
  addressTranslation .S12E1W ⟨4#3, 7#4, 8#4, 5#3⟩ rt s

/-- `AT S12E0R, <Xt>` (R115): word 0xD50C78C0 with Xt. -/
def execAtS12E0R (rt : BitVec 5) (s : State) : Res :=
  addressTranslation .S12E0R ⟨4#3, 7#4, 8#4, 6#3⟩ rt s

/-- `AT S12E0W, <Xt>` (R116): word 0xD50C78E0 with Xt. -/
def execAtS12E0W (rt : BitVec 5) (s : State) : Res :=
  addressTranslation .S12E0W ⟨4#3, 7#4, 8#4, 7#3⟩ rt s

/-- `AT S1E2A, <Xt>` (R117): word 0xD50C7940 with Xt. -/
def execAtS1E2A (rt : BitVec 5) (s : State) : Res :=
  addressTranslation .S1E2A ⟨4#3, 7#4, 9#4, 2#3⟩ rt s

end Sys2Proof.Machine
end

