-- ==== Sys2Proof/Machine/Call.lean ====
section
/-! DEFINITION. SMC (R119): trapped at EL1 under NV without EL3; otherwise the base
architecture's call to EL3 (assumption 22). -/

namespace Sys2Proof.Machine

/-- SMC as the base architecture takes it: UNDEFINED at EL0 and without EL3 (R119); another trap if one
is due; with EL3 trapped from EL1 while HCR_EL2.TSC is 1 (R119); else an exception to EL3 that returns to
the next instruction (R213). DESIGN CHOICE (assumption 14): these checks are made in this order, UNDEFINED
before another trap and another trap before HCR_EL2.TSC; N3 and 92 D23 leave the priority open. -/
def baseSmc (imm16 : BitVec 16) (s : State) : State :=
  if s.pstate.el = .EL0 ∨ s.cfg.haveEL3 = false then undefinedInstr s
  else
    match otherTrap s .smc with
    | some o => takeOtherTrap o (issSmc imm16) s
    | none =>
      if underEL2 s && effTSC s then trapToEL2 0x17#6 (issSmc imm16) s
      else
        takeException
          { target := .EL3, syndrome := .value 0x17#6 (issSmc imm16), far := .keep,
            ret := s.pc + 4#64 } s

/-- `SMC #<imm16>` (R119). -/
def execSmc (imm16 : BitVec 16) (s : State) : Res :=
  .next (if smcTrapped s then trapToEL2 0x17#6 (issSmc imm16) s else baseSmc imm16 s)

end Sys2Proof.Machine
end

