-- ==== Sys2Proof/Machine/Return.lean ====
section
/-! DEFINITION. ERET, ERETAA and ERETAB (R120 to R122): trapped at EL1 under NV, otherwise the
return of the base architecture (R131, R216; assumptions 20 and 21). -/

namespace Sys2Proof.Machine

/-- `NV_ERET` of R120 and, when it does not trap, the return to an address: UNDEFINED at EL0,
another trap if one is due, else process state and program counter are restored. UNDEFINED before another
trap is the model's order (DESIGN CHOICE, assumption 14), and one entry of `OtherTrap` answers for all three
instructions (DESIGN CHOICE, assumption 15). -/
def eretWith (kind : EretKind) (addr : Word) (s : State) : State :=
  if eretTrapped s then trapToEL2 0x1A#6 (issEret kind) s
  else if s.pstate.el = .EL0 then undefinedInstr s
  else
    match otherTrap s .eret with
    | some o => takeOtherTrap o (issEret kind) s
    | none => returnTo addr s

/-- The return address of ERETAA and ERETAB: ELR of the current level after authentication, whose
result the source does not state, a free value (assumption 21). -/
def authenticated (kind : EretKind) (s : State) : State :=
  if !s.cfg.havePAuth then undefinedInstr s
  else if eretTrapped s then trapToEL2 0x1A#6 (issEret kind) s
  else eretWith kind s.free (s.drawn 1)

/-- ERET (R120): the return address is ELR of the current level. -/
def execEret (s : State) : Res :=
  .next (eretWith .eret (s.reg ⟨.ELR, elSuffix s.pstate.el, 0⟩) s)

/-- ERETAA (R121); unallocated without FEAT_PAuth. -/
def execEretaa (s : State) : Res := .next (authenticated .eretaa s)

/-- ERETAB (R122); unallocated without FEAT_PAuth. -/
def execEretab (s : State) : Res := .next (authenticated .eretab s)

end Sys2Proof.Machine
end

