-- ==== Sys2Proof/Machine/SysReg.lean ====
section
/-! DEFINITION. MRS and MSR (R108, R109), MRRS and MSRR (R166). -/

namespace Sys2Proof.Machine

/-- `MRS <Xt>, <r>` (R108): the outcome of R170 decides. -/
def execMrs (e : SysEnc) (rt : BitVec 5) (s : State) : Res :=
  let r := sysRegName s.cfg e
  match classifyRegAccess s r .read false with
  | .trapEL2 ec => .next (trapToEL2 ec (issSysreg e rt .read) s)
  | .readAs v => .next (s.setX rt v).advance
  | .redirect r' => .next (s.setX rt (s.reg r')).advance
  | .transform off =>
    match vncrRead s off 8 with
    | .value v t => .next (t.setX rt (BitVec.ofNat 64 v)).advance
    | .stops t => .next t
  | .unallocated => .next (undefinedInstr s)
  | .unspecified => .refused .unspecified128
  | .unchanged => .next (baseRead e r rt s)

/-- `MSR <r>, <Xt>` (R109): the outcome of R170 decides. -/
def execMsr (e : SysEnc) (rt : BitVec 5) (s : State) : Res :=
  let r := sysRegName s.cfg e
  match classifyRegAccess s r .write false with
  | .trapEL2 ec => .next (trapToEL2 ec (issSysreg e rt .write) s)
  | .readAs _ => .next (baseWrite e r rt s)
  | .redirect r' => .next (s.store64 r' (s.x rt)).advance
  | .transform off =>
    match vncrWrite s off 8 (s.x rt).toNat with
    | .done t => .next t.advance
    | .stops t => .next t
  | .unallocated => .next (undefinedInstr s)
  | .unspecified => .refused .unspecified128
  | .unchanged => .next (baseWrite e r rt s)

/-- `MRRS <Xt>, <Xt+1>, <r>` (R166); `Unspecified` is refused (R130). -/
def execMrrs (e : SysEnc) (rt : BitVec 5) (s : State) : Res :=
  let r := sysRegName s.cfg e
  match classifyRegAccess s r .read true with
  | .transform off =>
    match vncrRead s off 16 with
    | .value v t => .next (t.setXPair rt (BitVec.ofNat 128 v)).advance
    | .stops t => .next t
  | .unspecified => .refused .unspecified128
  | .unallocated => .next (undefinedInstr s)
  | .unchanged => .next (baseRead128 e r rt s)
  | .trapEL2 _ => .next (baseRead128 e r rt s)
  | .readAs _ => .next (baseRead128 e r rt s)
  | .redirect _ => .next (baseRead128 e r rt s)

/-- `MSRR <r>, <Xt>, <Xt+1>` (R166); `Unspecified` is refused (R130). -/
def execMsrr (e : SysEnc) (rt : BitVec 5) (s : State) : Res :=
  let r := sysRegName s.cfg e
  match classifyRegAccess s r .write true with
  | .transform off =>
    match vncrWrite s off 16 (s.xPair rt).toNat with
    | .done t => .next t.advance
    | .stops t => .next t
  | .unspecified => .refused .unspecified128
  | .unallocated => .next (undefinedInstr s)
  | .unchanged => .next (baseWrite128 e r rt s)
  | .trapEL2 _ => .next (baseWrite128 e r rt s)
  | .readAs _ => .next (baseWrite128 e r rt s)
  | .redirect _ => .next (baseWrite128 e r rt s)

end Sys2Proof.Machine
end

