-- ==== Sys2Proof/Machine/TlbMaint.lean ====
section
/-! DEFINITION. The TLB maintenance instructions accessible only from EL2 (R79, R118): their trap
and, when it is not taken, the operation of the base architecture. -/

namespace Sys2Proof.Machine

/-- Whether the features an operation needs are implemented (R79). -/
def tlbiPresent (c : Config) (range os nxs : Bool) : Bool :=
  (!range || c.haveTLBIRANGE) && (!os || c.haveTLBIOS) && (!nxs || c.haveXS)

/-- The pairs a draw keeps, one bit each. -/
def keepPairs (w : Word) : Nat → List (Bool × Bool) → List (Bool × Bool)
  | _, [] => []
  | i, p :: ps => if w.getLsbD i then p :: keepPairs w (i + 1) ps else keepPairs w (i + 1) ps

/-- What an executed operation does to the state of this spec: any of the pairs in `TLBHeldNV`
may go; the source names no operation that removes them or keeps them (R44, R266; assumption
24), so which stay is free. -/
def invalidate (s : State) : State :=
  match s.tlbHeldNV with
  | [] => s
  | p :: ps => { s with tlbHeldNV := keepPairs s.free 0 (p :: ps), draw := s.draw + 1 }

/-- A TLBI operation that is a member of the class when present: the trap of R118, else the base
architecture, where it is accessible from EL2 (R100). -/
def tlbMaintenance (present : Bool) (enc : SysOp) (rt : BitVec 5) (s : State) : Res :=
  .next <|
    if tlbiTrapped s present then trapToEL2 0x18#6 (issSys enc rt) s
    else
      match baseSysGate s present .EL2 enc rt with
      | some t => t
      | none => (invalidate s).advance

/-- `TLBI IPAS2E1IS, <Xt>` (R118): word 0xD50C8020 with Xt. -/
def execTlbiIPAS2E1IS (rt : BitVec 5) (s : State) : Res :=
  tlbMaintenance (tlbiPresent s.cfg false false false) ⟨4#3, 8#4, 0#4, 1#3⟩ rt s

/-- `TLBI RIPAS2E1IS, <Xt>` (R118): word 0xD50C8040 with Xt; needs FEAT_TLBIRANGE. -/
def execTlbiRIPAS2E1IS (rt : BitVec 5) (s : State) : Res :=
  tlbMaintenance (tlbiPresent s.cfg true false false) ⟨4#3, 8#4, 0#4, 2#3⟩ rt s

/-- `TLBI IPAS2LE1IS, <Xt>` (R118): word 0xD50C80A0 with Xt. -/
def execTlbiIPAS2LE1IS (rt : BitVec 5) (s : State) : Res :=
  tlbMaintenance (tlbiPresent s.cfg false false false) ⟨4#3, 8#4, 0#4, 5#3⟩ rt s

/-- `TLBI RIPAS2LE1IS, <Xt>` (R118): word 0xD50C80C0 with Xt; needs FEAT_TLBIRANGE. -/
def execTlbiRIPAS2LE1IS (rt : BitVec 5) (s : State) : Res :=
  tlbMaintenance (tlbiPresent s.cfg true false false) ⟨4#3, 8#4, 0#4, 6#3⟩ rt s

/-- `TLBI ALLE2OS` (R118): word 0xD50C8100 with Xt; needs FEAT_TLBIOS. -/
def execTlbiALLE2OS (rt : BitVec 5) (s : State) : Res :=
  tlbMaintenance (tlbiPresent s.cfg false true false) ⟨4#3, 8#4, 1#4, 0#3⟩ rt s

/-- `TLBI VAE2OS, <Xt>` (R118): word 0xD50C8120 with Xt; needs FEAT_TLBIOS. -/
def execTlbiVAE2OS (rt : BitVec 5) (s : State) : Res :=
  tlbMaintenance (tlbiPresent s.cfg false true false) ⟨4#3, 8#4, 1#4, 1#3⟩ rt s

/-- `TLBI ALLE1OS` (R118): word 0xD50C8180 with Xt; needs FEAT_TLBIOS. -/
def execTlbiALLE1OS (rt : BitVec 5) (s : State) : Res :=
  tlbMaintenance (tlbiPresent s.cfg false true false) ⟨4#3, 8#4, 1#4, 4#3⟩ rt s

/-- `TLBI VALE2OS, <Xt>` (R118): word 0xD50C81A0 with Xt; needs FEAT_TLBIOS. -/
def execTlbiVALE2OS (rt : BitVec 5) (s : State) : Res :=
  tlbMaintenance (tlbiPresent s.cfg false true false) ⟨4#3, 8#4, 1#4, 5#3⟩ rt s

/-- `TLBI VMALLS12E1OS` (R118): word 0xD50C81C0 with Xt; needs FEAT_TLBIOS. -/
def execTlbiVMALLS12E1OS (rt : BitVec 5) (s : State) : Res :=
  tlbMaintenance (tlbiPresent s.cfg false true false) ⟨4#3, 8#4, 1#4, 6#3⟩ rt s

/-- `TLBI RVAE2IS, <Xt>` (R118): word 0xD50C8220 with Xt; needs FEAT_TLBIRANGE. -/
def execTlbiRVAE2IS (rt : BitVec 5) (s : State) : Res :=
  tlbMaintenance (tlbiPresent s.cfg true false false) ⟨4#3, 8#4, 2#4, 1#3⟩ rt s

/-- `TLBI RVALE2IS, <Xt>` (R118): word 0xD50C82A0 with Xt; needs FEAT_TLBIRANGE. -/
def execTlbiRVALE2IS (rt : BitVec 5) (s : State) : Res :=
  tlbMaintenance (tlbiPresent s.cfg true false false) ⟨4#3, 8#4, 2#4, 5#3⟩ rt s

/-- `TLBI ALLE2IS` (R118): word 0xD50C8300 with Xt. -/
def execTlbiALLE2IS (rt : BitVec 5) (s : State) : Res :=
  tlbMaintenance (tlbiPresent s.cfg false false false) ⟨4#3, 8#4, 3#4, 0#3⟩ rt s

/-- `TLBI VAE2IS, <Xt>` (R118): word 0xD50C8320 with Xt. -/
def execTlbiVAE2IS (rt : BitVec 5) (s : State) : Res :=
  tlbMaintenance (tlbiPresent s.cfg false false false) ⟨4#3, 8#4, 3#4, 1#3⟩ rt s

/-- `TLBI ALLE1IS` (R118): word 0xD50C8380 with Xt. -/
def execTlbiALLE1IS (rt : BitVec 5) (s : State) : Res :=
  tlbMaintenance (tlbiPresent s.cfg false false false) ⟨4#3, 8#4, 3#4, 4#3⟩ rt s

/-- `TLBI VALE2IS, <Xt>` (R118): word 0xD50C83A0 with Xt. -/
def execTlbiVALE2IS (rt : BitVec 5) (s : State) : Res :=
  tlbMaintenance (tlbiPresent s.cfg false false false) ⟨4#3, 8#4, 3#4, 5#3⟩ rt s

/-- `TLBI VMALLS12E1IS` (R118): word 0xD50C83C0 with Xt. -/
def execTlbiVMALLS12E1IS (rt : BitVec 5) (s : State) : Res :=
  tlbMaintenance (tlbiPresent s.cfg false false false) ⟨4#3, 8#4, 3#4, 6#3⟩ rt s

/-- `TLBI IPAS2E1OS, <Xt>` (R118): word 0xD50C8400 with Xt; needs FEAT_TLBIOS. -/
def execTlbiIPAS2E1OS (rt : BitVec 5) (s : State) : Res :=
  tlbMaintenance (tlbiPresent s.cfg false true false) ⟨4#3, 8#4, 4#4, 0#3⟩ rt s

/-- `TLBI IPAS2E1, <Xt>` (R118): word 0xD50C8420 with Xt. -/
def execTlbiIPAS2E1 (rt : BitVec 5) (s : State) : Res :=
  tlbMaintenance (tlbiPresent s.cfg false false false) ⟨4#3, 8#4, 4#4, 1#3⟩ rt s

/-- `TLBI RIPAS2E1, <Xt>` (R118): word 0xD50C8440 with Xt; needs FEAT_TLBIRANGE. -/
def execTlbiRIPAS2E1 (rt : BitVec 5) (s : State) : Res :=
  tlbMaintenance (tlbiPresent s.cfg true false false) ⟨4#3, 8#4, 4#4, 2#3⟩ rt s

/-- `TLBI RIPAS2E1OS, <Xt>` (R118): word 0xD50C8460 with Xt; needs FEAT_TLBIRANGE, FEAT_TLBIOS. -/
def execTlbiRIPAS2E1OS (rt : BitVec 5) (s : State) : Res :=
  tlbMaintenance (tlbiPresent s.cfg true true false) ⟨4#3, 8#4, 4#4, 3#3⟩ rt s

/-- `TLBI IPAS2LE1OS, <Xt>` (R118): word 0xD50C8480 with Xt; needs FEAT_TLBIOS. -/
def execTlbiIPAS2LE1OS (rt : BitVec 5) (s : State) : Res :=
  tlbMaintenance (tlbiPresent s.cfg false true false) ⟨4#3, 8#4, 4#4, 4#3⟩ rt s

/-- `TLBI IPAS2LE1, <Xt>` (R118): word 0xD50C84A0 with Xt. -/
def execTlbiIPAS2LE1 (rt : BitVec 5) (s : State) : Res :=
  tlbMaintenance (tlbiPresent s.cfg false false false) ⟨4#3, 8#4, 4#4, 5#3⟩ rt s

/-- `TLBI RIPAS2LE1, <Xt>` (R118): word 0xD50C84C0 with Xt; needs FEAT_TLBIRANGE. -/
def execTlbiRIPAS2LE1 (rt : BitVec 5) (s : State) : Res :=
  tlbMaintenance (tlbiPresent s.cfg true false false) ⟨4#3, 8#4, 4#4, 6#3⟩ rt s

/-- `TLBI RIPAS2LE1OS, <Xt>` (R118): word 0xD50C84E0 with Xt; needs FEAT_TLBIRANGE, FEAT_TLBIOS. -/
def execTlbiRIPAS2LE1OS (rt : BitVec 5) (s : State) : Res :=
  tlbMaintenance (tlbiPresent s.cfg true true false) ⟨4#3, 8#4, 4#4, 7#3⟩ rt s

/-- `TLBI RVAE2OS, <Xt>` (R118): word 0xD50C8520 with Xt; needs FEAT_TLBIRANGE, FEAT_TLBIOS. -/
def execTlbiRVAE2OS (rt : BitVec 5) (s : State) : Res :=
  tlbMaintenance (tlbiPresent s.cfg true true false) ⟨4#3, 8#4, 5#4, 1#3⟩ rt s

/-- `TLBI RVALE2OS, <Xt>` (R118): word 0xD50C85A0 with Xt; needs FEAT_TLBIRANGE, FEAT_TLBIOS. -/
def execTlbiRVALE2OS (rt : BitVec 5) (s : State) : Res :=
  tlbMaintenance (tlbiPresent s.cfg true true false) ⟨4#3, 8#4, 5#4, 5#3⟩ rt s

/-- `TLBI RVAE2, <Xt>` (R118): word 0xD50C8620 with Xt; needs FEAT_TLBIRANGE. -/
def execTlbiRVAE2 (rt : BitVec 5) (s : State) : Res :=
  tlbMaintenance (tlbiPresent s.cfg true false false) ⟨4#3, 8#4, 6#4, 1#3⟩ rt s

/-- `TLBI RVALE2, <Xt>` (R118): word 0xD50C86A0 with Xt; needs FEAT_TLBIRANGE. -/
def execTlbiRVALE2 (rt : BitVec 5) (s : State) : Res :=
  tlbMaintenance (tlbiPresent s.cfg true false false) ⟨4#3, 8#4, 6#4, 5#3⟩ rt s

/-- `TLBI ALLE2` (R118): word 0xD50C8700 with Xt. -/
def execTlbiALLE2 (rt : BitVec 5) (s : State) : Res :=
  tlbMaintenance (tlbiPresent s.cfg false false false) ⟨4#3, 8#4, 7#4, 0#3⟩ rt s

/-- `TLBI VAE2, <Xt>` (R118): word 0xD50C8720 with Xt. -/
def execTlbiVAE2 (rt : BitVec 5) (s : State) : Res :=
  tlbMaintenance (tlbiPresent s.cfg false false false) ⟨4#3, 8#4, 7#4, 1#3⟩ rt s

/-- `TLBI ALLE1` (R118): word 0xD50C8780 with Xt. -/
def execTlbiALLE1 (rt : BitVec 5) (s : State) : Res :=
  tlbMaintenance (tlbiPresent s.cfg false false false) ⟨4#3, 8#4, 7#4, 4#3⟩ rt s

/-- `TLBI VALE2, <Xt>` (R118): word 0xD50C87A0 with Xt. -/
def execTlbiVALE2 (rt : BitVec 5) (s : State) : Res :=
  tlbMaintenance (tlbiPresent s.cfg false false false) ⟨4#3, 8#4, 7#4, 5#3⟩ rt s

/-- `TLBI VMALLS12E1` (R118): word 0xD50C87C0 with Xt. -/
def execTlbiVMALLS12E1 (rt : BitVec 5) (s : State) : Res :=
  tlbMaintenance (tlbiPresent s.cfg false false false) ⟨4#3, 8#4, 7#4, 6#3⟩ rt s

/-- `TLBI IPAS2E1ISNXS, <Xt>` (R118): word 0xD50C9020 with Xt; needs FEAT_XS. -/
def execTlbiIPAS2E1ISNXS (rt : BitVec 5) (s : State) : Res :=
  tlbMaintenance (tlbiPresent s.cfg false false true) ⟨4#3, 9#4, 0#4, 1#3⟩ rt s

/-- `TLBI RIPAS2E1ISNXS, <Xt>` (R118): word 0xD50C9040 with Xt; needs FEAT_TLBIRANGE, FEAT_XS. -/
def execTlbiRIPAS2E1ISNXS (rt : BitVec 5) (s : State) : Res :=
  tlbMaintenance (tlbiPresent s.cfg true false true) ⟨4#3, 9#4, 0#4, 2#3⟩ rt s

/-- `TLBI IPAS2LE1ISNXS, <Xt>` (R118): word 0xD50C90A0 with Xt; needs FEAT_XS. -/
def execTlbiIPAS2LE1ISNXS (rt : BitVec 5) (s : State) : Res :=
  tlbMaintenance (tlbiPresent s.cfg false false true) ⟨4#3, 9#4, 0#4, 5#3⟩ rt s

/-- `TLBI RIPAS2LE1ISNXS, <Xt>` (R118): word 0xD50C90C0 with Xt; needs FEAT_TLBIRANGE, FEAT_XS. -/
def execTlbiRIPAS2LE1ISNXS (rt : BitVec 5) (s : State) : Res :=
  tlbMaintenance (tlbiPresent s.cfg true false true) ⟨4#3, 9#4, 0#4, 6#3⟩ rt s

/-- `TLBI ALLE2OSNXS` (R118): word 0xD50C9100 with Xt; needs FEAT_TLBIOS, FEAT_XS. -/
def execTlbiALLE2OSNXS (rt : BitVec 5) (s : State) : Res :=
  tlbMaintenance (tlbiPresent s.cfg false true true) ⟨4#3, 9#4, 1#4, 0#3⟩ rt s

/-- `TLBI VAE2OSNXS, <Xt>` (R118): word 0xD50C9120 with Xt; needs FEAT_TLBIOS, FEAT_XS. -/
def execTlbiVAE2OSNXS (rt : BitVec 5) (s : State) : Res :=
  tlbMaintenance (tlbiPresent s.cfg false true true) ⟨4#3, 9#4, 1#4, 1#3⟩ rt s

/-- `TLBI ALLE1OSNXS` (R118): word 0xD50C9180 with Xt; needs FEAT_TLBIOS, FEAT_XS. -/
def execTlbiALLE1OSNXS (rt : BitVec 5) (s : State) : Res :=
  tlbMaintenance (tlbiPresent s.cfg false true true) ⟨4#3, 9#4, 1#4, 4#3⟩ rt s

/-- `TLBI VALE2OSNXS, <Xt>` (R118): word 0xD50C91A0 with Xt; needs FEAT_TLBIOS, FEAT_XS. -/
def execTlbiVALE2OSNXS (rt : BitVec 5) (s : State) : Res :=
  tlbMaintenance (tlbiPresent s.cfg false true true) ⟨4#3, 9#4, 1#4, 5#3⟩ rt s

/-- `TLBI VMALLS12E1OSNXS` (R118): word 0xD50C91C0 with Xt; needs FEAT_TLBIOS, FEAT_XS. -/
def execTlbiVMALLS12E1OSNXS (rt : BitVec 5) (s : State) : Res :=
  tlbMaintenance (tlbiPresent s.cfg false true true) ⟨4#3, 9#4, 1#4, 6#3⟩ rt s

/-- `TLBI RVAE2ISNXS, <Xt>` (R118): word 0xD50C9220 with Xt; needs FEAT_TLBIRANGE, FEAT_XS. -/
def execTlbiRVAE2ISNXS (rt : BitVec 5) (s : State) : Res :=
  tlbMaintenance (tlbiPresent s.cfg true false true) ⟨4#3, 9#4, 2#4, 1#3⟩ rt s

/-- `TLBI RVALE2ISNXS, <Xt>` (R118): word 0xD50C92A0 with Xt; needs FEAT_TLBIRANGE, FEAT_XS. -/
def execTlbiRVALE2ISNXS (rt : BitVec 5) (s : State) : Res :=
  tlbMaintenance (tlbiPresent s.cfg true false true) ⟨4#3, 9#4, 2#4, 5#3⟩ rt s

/-- `TLBI ALLE2ISNXS` (R118): word 0xD50C9300 with Xt; needs FEAT_XS. -/
def execTlbiALLE2ISNXS (rt : BitVec 5) (s : State) : Res :=
  tlbMaintenance (tlbiPresent s.cfg false false true) ⟨4#3, 9#4, 3#4, 0#3⟩ rt s

/-- `TLBI VAE2ISNXS, <Xt>` (R118): word 0xD50C9320 with Xt; needs FEAT_XS. -/
def execTlbiVAE2ISNXS (rt : BitVec 5) (s : State) : Res :=
  tlbMaintenance (tlbiPresent s.cfg false false true) ⟨4#3, 9#4, 3#4, 1#3⟩ rt s

/-- `TLBI ALLE1ISNXS` (R118): word 0xD50C9380 with Xt; needs FEAT_XS. -/
def execTlbiALLE1ISNXS (rt : BitVec 5) (s : State) : Res :=
  tlbMaintenance (tlbiPresent s.cfg false false true) ⟨4#3, 9#4, 3#4, 4#3⟩ rt s

/-- `TLBI VALE2ISNXS, <Xt>` (R118): word 0xD50C93A0 with Xt; needs FEAT_XS. -/
def execTlbiVALE2ISNXS (rt : BitVec 5) (s : State) : Res :=
  tlbMaintenance (tlbiPresent s.cfg false false true) ⟨4#3, 9#4, 3#4, 5#3⟩ rt s

/-- `TLBI VMALLS12E1ISNXS` (R118): word 0xD50C93C0 with Xt; needs FEAT_XS. -/
def execTlbiVMALLS12E1ISNXS (rt : BitVec 5) (s : State) : Res :=
  tlbMaintenance (tlbiPresent s.cfg false false true) ⟨4#3, 9#4, 3#4, 6#3⟩ rt s

/-- `TLBI IPAS2E1OSNXS, <Xt>` (R118): word 0xD50C9400 with Xt; needs FEAT_TLBIOS, FEAT_XS. -/
def execTlbiIPAS2E1OSNXS (rt : BitVec 5) (s : State) : Res :=
  tlbMaintenance (tlbiPresent s.cfg false true true) ⟨4#3, 9#4, 4#4, 0#3⟩ rt s

/-- `TLBI IPAS2E1NXS, <Xt>` (R118): word 0xD50C9420 with Xt; needs FEAT_XS. -/
def execTlbiIPAS2E1NXS (rt : BitVec 5) (s : State) : Res :=
  tlbMaintenance (tlbiPresent s.cfg false false true) ⟨4#3, 9#4, 4#4, 1#3⟩ rt s

/-- `TLBI RIPAS2E1NXS, <Xt>` (R118): word 0xD50C9440 with Xt; needs FEAT_TLBIRANGE, FEAT_XS. -/
def execTlbiRIPAS2E1NXS (rt : BitVec 5) (s : State) : Res :=
  tlbMaintenance (tlbiPresent s.cfg true false true) ⟨4#3, 9#4, 4#4, 2#3⟩ rt s

/-- `TLBI RIPAS2E1OSNXS, <Xt>` (R118): word 0xD50C9460 with Xt; needs FEAT_TLBIRANGE, FEAT_TLBIOS, FEAT_XS. -/
def execTlbiRIPAS2E1OSNXS (rt : BitVec 5) (s : State) : Res :=
  tlbMaintenance (tlbiPresent s.cfg true true true) ⟨4#3, 9#4, 4#4, 3#3⟩ rt s

/-- `TLBI IPAS2LE1OSNXS, <Xt>` (R118): word 0xD50C9480 with Xt; needs FEAT_TLBIOS, FEAT_XS. -/
def execTlbiIPAS2LE1OSNXS (rt : BitVec 5) (s : State) : Res :=
  tlbMaintenance (tlbiPresent s.cfg false true true) ⟨4#3, 9#4, 4#4, 4#3⟩ rt s

/-- `TLBI IPAS2LE1NXS, <Xt>` (R118): word 0xD50C94A0 with Xt; needs FEAT_XS. -/
def execTlbiIPAS2LE1NXS (rt : BitVec 5) (s : State) : Res :=
  tlbMaintenance (tlbiPresent s.cfg false false true) ⟨4#3, 9#4, 4#4, 5#3⟩ rt s

/-- `TLBI RIPAS2LE1NXS, <Xt>` (R118): word 0xD50C94C0 with Xt; needs FEAT_TLBIRANGE, FEAT_XS. -/
def execTlbiRIPAS2LE1NXS (rt : BitVec 5) (s : State) : Res :=
  tlbMaintenance (tlbiPresent s.cfg true false true) ⟨4#3, 9#4, 4#4, 6#3⟩ rt s

/-- `TLBI RIPAS2LE1OSNXS, <Xt>` (R118): word 0xD50C94E0 with Xt; needs FEAT_TLBIRANGE, FEAT_TLBIOS, FEAT_XS. -/
def execTlbiRIPAS2LE1OSNXS (rt : BitVec 5) (s : State) : Res :=
  tlbMaintenance (tlbiPresent s.cfg true true true) ⟨4#3, 9#4, 4#4, 7#3⟩ rt s

/-- `TLBI RVAE2OSNXS, <Xt>` (R118): word 0xD50C9520 with Xt; needs FEAT_TLBIRANGE, FEAT_TLBIOS, FEAT_XS. -/
def execTlbiRVAE2OSNXS (rt : BitVec 5) (s : State) : Res :=
  tlbMaintenance (tlbiPresent s.cfg true true true) ⟨4#3, 9#4, 5#4, 1#3⟩ rt s

/-- `TLBI RVALE2OSNXS, <Xt>` (R118): word 0xD50C95A0 with Xt; needs FEAT_TLBIRANGE, FEAT_TLBIOS, FEAT_XS. -/
def execTlbiRVALE2OSNXS (rt : BitVec 5) (s : State) : Res :=
  tlbMaintenance (tlbiPresent s.cfg true true true) ⟨4#3, 9#4, 5#4, 5#3⟩ rt s

/-- `TLBI RVAE2NXS, <Xt>` (R118): word 0xD50C9620 with Xt; needs FEAT_TLBIRANGE, FEAT_XS. -/
def execTlbiRVAE2NXS (rt : BitVec 5) (s : State) : Res :=
  tlbMaintenance (tlbiPresent s.cfg true false true) ⟨4#3, 9#4, 6#4, 1#3⟩ rt s

/-- `TLBI RVALE2NXS, <Xt>` (R118): word 0xD50C96A0 with Xt; needs FEAT_TLBIRANGE, FEAT_XS. -/
def execTlbiRVALE2NXS (rt : BitVec 5) (s : State) : Res :=
  tlbMaintenance (tlbiPresent s.cfg true false true) ⟨4#3, 9#4, 6#4, 5#3⟩ rt s

/-- `TLBI ALLE2NXS` (R118): word 0xD50C9700 with Xt; needs FEAT_XS. -/
def execTlbiALLE2NXS (rt : BitVec 5) (s : State) : Res :=
  tlbMaintenance (tlbiPresent s.cfg false false true) ⟨4#3, 9#4, 7#4, 0#3⟩ rt s

/-- `TLBI VAE2NXS, <Xt>` (R118): word 0xD50C9720 with Xt; needs FEAT_XS. -/
def execTlbiVAE2NXS (rt : BitVec 5) (s : State) : Res :=
  tlbMaintenance (tlbiPresent s.cfg false false true) ⟨4#3, 9#4, 7#4, 1#3⟩ rt s

/-- `TLBI ALLE1NXS` (R118): word 0xD50C9780 with Xt; needs FEAT_XS. -/
def execTlbiALLE1NXS (rt : BitVec 5) (s : State) : Res :=
  tlbMaintenance (tlbiPresent s.cfg false false true) ⟨4#3, 9#4, 7#4, 4#3⟩ rt s

/-- `TLBI VALE2NXS, <Xt>` (R118): word 0xD50C97A0 with Xt; needs FEAT_XS. -/
def execTlbiVALE2NXS (rt : BitVec 5) (s : State) : Res :=
  tlbMaintenance (tlbiPresent s.cfg false false true) ⟨4#3, 9#4, 7#4, 5#3⟩ rt s

/-- `TLBI VMALLS12E1NXS` (R118): word 0xD50C97C0 with Xt; needs FEAT_XS. -/
def execTlbiVMALLS12E1NXS (rt : BitVec 5) (s : State) : Res :=
  tlbMaintenance (tlbiPresent s.cfg false false true) ⟨4#3, 9#4, 7#4, 6#3⟩ rt s

end Sys2Proof.Machine
end

