-- ==== Sys2Proof/Machine/Dispatch.lean ====
section
/-! DEFINITION. One arm per instruction, each one call of its meaning. -/

namespace Sys2Proof.Machine

def exec (i : Instr) (s : State) : Host.Outcome State Fault Refusal :=
  match i with
  | .mrs r rt => Sys2Proof.Machine.execMrs r rt s
  | .msr r rt => Sys2Proof.Machine.execMsr r rt s
  | .mrrs r rt => Sys2Proof.Machine.execMrrs r rt s
  | .msrr r rt => Sys2Proof.Machine.execMsrr r rt s
  | .at_S1E1R rt => Sys2Proof.Machine.execAtS1E1R rt s
  | .at_S1E1W rt => Sys2Proof.Machine.execAtS1E1W rt s
  | .at_S1E0R rt => Sys2Proof.Machine.execAtS1E0R rt s
  | .at_S1E0W rt => Sys2Proof.Machine.execAtS1E0W rt s
  | .at_S1E1RP rt => Sys2Proof.Machine.execAtS1E1RP rt s
  | .at_S1E1WP rt => Sys2Proof.Machine.execAtS1E1WP rt s
  | .at_S1E1A rt => Sys2Proof.Machine.execAtS1E1A rt s
  | .at_S1E2R rt => Sys2Proof.Machine.execAtS1E2R rt s
  | .at_S1E2W rt => Sys2Proof.Machine.execAtS1E2W rt s
  | .at_S12E1R rt => Sys2Proof.Machine.execAtS12E1R rt s
  | .at_S12E1W rt => Sys2Proof.Machine.execAtS12E1W rt s
  | .at_S12E0R rt => Sys2Proof.Machine.execAtS12E0R rt s
  | .at_S12E0W rt => Sys2Proof.Machine.execAtS12E0W rt s
  | .at_S1E2A rt => Sys2Proof.Machine.execAtS1E2A rt s
  | .tlbi_IPAS2E1IS rt => Sys2Proof.Machine.execTlbiIPAS2E1IS rt s
  | .tlbi_RIPAS2E1IS rt => Sys2Proof.Machine.execTlbiRIPAS2E1IS rt s
  | .tlbi_IPAS2LE1IS rt => Sys2Proof.Machine.execTlbiIPAS2LE1IS rt s
  | .tlbi_RIPAS2LE1IS rt => Sys2Proof.Machine.execTlbiRIPAS2LE1IS rt s
  | .tlbi_ALLE2OS rt => Sys2Proof.Machine.execTlbiALLE2OS rt s
  | .tlbi_VAE2OS rt => Sys2Proof.Machine.execTlbiVAE2OS rt s
  | .tlbi_ALLE1OS rt => Sys2Proof.Machine.execTlbiALLE1OS rt s
  | .tlbi_VALE2OS rt => Sys2Proof.Machine.execTlbiVALE2OS rt s
  | .tlbi_VMALLS12E1OS rt => Sys2Proof.Machine.execTlbiVMALLS12E1OS rt s
  | .tlbi_RVAE2IS rt => Sys2Proof.Machine.execTlbiRVAE2IS rt s
  | .tlbi_RVALE2IS rt => Sys2Proof.Machine.execTlbiRVALE2IS rt s
  | .tlbi_ALLE2IS rt => Sys2Proof.Machine.execTlbiALLE2IS rt s
  | .tlbi_VAE2IS rt => Sys2Proof.Machine.execTlbiVAE2IS rt s
  | .tlbi_ALLE1IS rt => Sys2Proof.Machine.execTlbiALLE1IS rt s
  | .tlbi_VALE2IS rt => Sys2Proof.Machine.execTlbiVALE2IS rt s
  | .tlbi_VMALLS12E1IS rt => Sys2Proof.Machine.execTlbiVMALLS12E1IS rt s
  | .tlbi_IPAS2E1OS rt => Sys2Proof.Machine.execTlbiIPAS2E1OS rt s
  | .tlbi_IPAS2E1 rt => Sys2Proof.Machine.execTlbiIPAS2E1 rt s
  | .tlbi_RIPAS2E1 rt => Sys2Proof.Machine.execTlbiRIPAS2E1 rt s
  | .tlbi_RIPAS2E1OS rt => Sys2Proof.Machine.execTlbiRIPAS2E1OS rt s
  | .tlbi_IPAS2LE1OS rt => Sys2Proof.Machine.execTlbiIPAS2LE1OS rt s
  | .tlbi_IPAS2LE1 rt => Sys2Proof.Machine.execTlbiIPAS2LE1 rt s
  | .tlbi_RIPAS2LE1 rt => Sys2Proof.Machine.execTlbiRIPAS2LE1 rt s
  | .tlbi_RIPAS2LE1OS rt => Sys2Proof.Machine.execTlbiRIPAS2LE1OS rt s
  | .tlbi_RVAE2OS rt => Sys2Proof.Machine.execTlbiRVAE2OS rt s
  | .tlbi_RVALE2OS rt => Sys2Proof.Machine.execTlbiRVALE2OS rt s
  | .tlbi_RVAE2 rt => Sys2Proof.Machine.execTlbiRVAE2 rt s
  | .tlbi_RVALE2 rt => Sys2Proof.Machine.execTlbiRVALE2 rt s
  | .tlbi_ALLE2 rt => Sys2Proof.Machine.execTlbiALLE2 rt s
  | .tlbi_VAE2 rt => Sys2Proof.Machine.execTlbiVAE2 rt s
  | .tlbi_ALLE1 rt => Sys2Proof.Machine.execTlbiALLE1 rt s
  | .tlbi_VALE2 rt => Sys2Proof.Machine.execTlbiVALE2 rt s
  | .tlbi_VMALLS12E1 rt => Sys2Proof.Machine.execTlbiVMALLS12E1 rt s
  | .tlbi_IPAS2E1ISNXS rt => Sys2Proof.Machine.execTlbiIPAS2E1ISNXS rt s
  | .tlbi_RIPAS2E1ISNXS rt => Sys2Proof.Machine.execTlbiRIPAS2E1ISNXS rt s
  | .tlbi_IPAS2LE1ISNXS rt => Sys2Proof.Machine.execTlbiIPAS2LE1ISNXS rt s
  | .tlbi_RIPAS2LE1ISNXS rt => Sys2Proof.Machine.execTlbiRIPAS2LE1ISNXS rt s
  | .tlbi_ALLE2OSNXS rt => Sys2Proof.Machine.execTlbiALLE2OSNXS rt s
  | .tlbi_VAE2OSNXS rt => Sys2Proof.Machine.execTlbiVAE2OSNXS rt s
  | .tlbi_ALLE1OSNXS rt => Sys2Proof.Machine.execTlbiALLE1OSNXS rt s
  | .tlbi_VALE2OSNXS rt => Sys2Proof.Machine.execTlbiVALE2OSNXS rt s
  | .tlbi_VMALLS12E1OSNXS rt => Sys2Proof.Machine.execTlbiVMALLS12E1OSNXS rt s
  | .tlbi_RVAE2ISNXS rt => Sys2Proof.Machine.execTlbiRVAE2ISNXS rt s
  | .tlbi_RVALE2ISNXS rt => Sys2Proof.Machine.execTlbiRVALE2ISNXS rt s
  | .tlbi_ALLE2ISNXS rt => Sys2Proof.Machine.execTlbiALLE2ISNXS rt s
  | .tlbi_VAE2ISNXS rt => Sys2Proof.Machine.execTlbiVAE2ISNXS rt s
  | .tlbi_ALLE1ISNXS rt => Sys2Proof.Machine.execTlbiALLE1ISNXS rt s
  | .tlbi_VALE2ISNXS rt => Sys2Proof.Machine.execTlbiVALE2ISNXS rt s
  | .tlbi_VMALLS12E1ISNXS rt => Sys2Proof.Machine.execTlbiVMALLS12E1ISNXS rt s
  | .tlbi_IPAS2E1OSNXS rt => Sys2Proof.Machine.execTlbiIPAS2E1OSNXS rt s
  | .tlbi_IPAS2E1NXS rt => Sys2Proof.Machine.execTlbiIPAS2E1NXS rt s
  | .tlbi_RIPAS2E1NXS rt => Sys2Proof.Machine.execTlbiRIPAS2E1NXS rt s
  | .tlbi_RIPAS2E1OSNXS rt => Sys2Proof.Machine.execTlbiRIPAS2E1OSNXS rt s
  | .tlbi_IPAS2LE1OSNXS rt => Sys2Proof.Machine.execTlbiIPAS2LE1OSNXS rt s
  | .tlbi_IPAS2LE1NXS rt => Sys2Proof.Machine.execTlbiIPAS2LE1NXS rt s
  | .tlbi_RIPAS2LE1NXS rt => Sys2Proof.Machine.execTlbiRIPAS2LE1NXS rt s
  | .tlbi_RIPAS2LE1OSNXS rt => Sys2Proof.Machine.execTlbiRIPAS2LE1OSNXS rt s
  | .tlbi_RVAE2OSNXS rt => Sys2Proof.Machine.execTlbiRVAE2OSNXS rt s
  | .tlbi_RVALE2OSNXS rt => Sys2Proof.Machine.execTlbiRVALE2OSNXS rt s
  | .tlbi_RVAE2NXS rt => Sys2Proof.Machine.execTlbiRVAE2NXS rt s
  | .tlbi_RVALE2NXS rt => Sys2Proof.Machine.execTlbiRVALE2NXS rt s
  | .tlbi_ALLE2NXS rt => Sys2Proof.Machine.execTlbiALLE2NXS rt s
  | .tlbi_VAE2NXS rt => Sys2Proof.Machine.execTlbiVAE2NXS rt s
  | .tlbi_ALLE1NXS rt => Sys2Proof.Machine.execTlbiALLE1NXS rt s
  | .tlbi_VALE2NXS rt => Sys2Proof.Machine.execTlbiVALE2NXS rt s
  | .tlbi_VMALLS12E1NXS rt => Sys2Proof.Machine.execTlbiVMALLS12E1NXS rt s
  | .eret => Sys2Proof.Machine.execEret s
  | .eretaa => Sys2Proof.Machine.execEretaa s
  | .eretab => Sys2Proof.Machine.execEretab s
  | .smc imm16 => Sys2Proof.Machine.execSmc imm16 s

end Sys2Proof.Machine
end

