-- ==== Sys2Proof/WellFormed.lean ====
section
/-! DEFINITION. The check an instruction must pass: its operands are ones the encoding admits. -/

namespace Sys2Proof

/-- R72: "Rt must be even and not 31" for MRRS and MSRR (31 is odd, so one test suffices). -/
def pairRegisterOk (rt : BitVec 5) : Bool := rt &&& 1#5 == 0#5

/-- Whether an instruction's operands are ones its encoding admits. The widths of the fields
settle every other operand. -/
def wellFormed : Instr → Bool
  | .mrrs _ rt => pairRegisterOk rt
  | .msrr _ rt => pairRegisterOk rt
  | .mrs _ _ => true
  | .msr _ _ => true
  | .at_S1E1R _ => true
  | .at_S1E1W _ => true
  | .at_S1E0R _ => true
  | .at_S1E0W _ => true
  | .at_S1E1RP _ => true
  | .at_S1E1WP _ => true
  | .at_S1E1A _ => true
  | .at_S1E2R _ => true
  | .at_S1E2W _ => true
  | .at_S12E1R _ => true
  | .at_S12E1W _ => true
  | .at_S12E0R _ => true
  | .at_S12E0W _ => true
  | .at_S1E2A _ => true
  | .tlbi_IPAS2E1IS _ => true
  | .tlbi_RIPAS2E1IS _ => true
  | .tlbi_IPAS2LE1IS _ => true
  | .tlbi_RIPAS2LE1IS _ => true
  | .tlbi_ALLE2OS _ => true
  | .tlbi_VAE2OS _ => true
  | .tlbi_ALLE1OS _ => true
  | .tlbi_VALE2OS _ => true
  | .tlbi_VMALLS12E1OS _ => true
  | .tlbi_RVAE2IS _ => true
  | .tlbi_RVALE2IS _ => true
  | .tlbi_ALLE2IS _ => true
  | .tlbi_VAE2IS _ => true
  | .tlbi_ALLE1IS _ => true
  | .tlbi_VALE2IS _ => true
  | .tlbi_VMALLS12E1IS _ => true
  | .tlbi_IPAS2E1OS _ => true
  | .tlbi_IPAS2E1 _ => true
  | .tlbi_RIPAS2E1 _ => true
  | .tlbi_RIPAS2E1OS _ => true
  | .tlbi_IPAS2LE1OS _ => true
  | .tlbi_IPAS2LE1 _ => true
  | .tlbi_RIPAS2LE1 _ => true
  | .tlbi_RIPAS2LE1OS _ => true
  | .tlbi_RVAE2OS _ => true
  | .tlbi_RVALE2OS _ => true
  | .tlbi_RVAE2 _ => true
  | .tlbi_RVALE2 _ => true
  | .tlbi_ALLE2 _ => true
  | .tlbi_VAE2 _ => true
  | .tlbi_ALLE1 _ => true
  | .tlbi_VALE2 _ => true
  | .tlbi_VMALLS12E1 _ => true
  | .tlbi_IPAS2E1ISNXS _ => true
  | .tlbi_RIPAS2E1ISNXS _ => true
  | .tlbi_IPAS2LE1ISNXS _ => true
  | .tlbi_RIPAS2LE1ISNXS _ => true
  | .tlbi_ALLE2OSNXS _ => true
  | .tlbi_VAE2OSNXS _ => true
  | .tlbi_ALLE1OSNXS _ => true
  | .tlbi_VALE2OSNXS _ => true
  | .tlbi_VMALLS12E1OSNXS _ => true
  | .tlbi_RVAE2ISNXS _ => true
  | .tlbi_RVALE2ISNXS _ => true
  | .tlbi_ALLE2ISNXS _ => true
  | .tlbi_VAE2ISNXS _ => true
  | .tlbi_ALLE1ISNXS _ => true
  | .tlbi_VALE2ISNXS _ => true
  | .tlbi_VMALLS12E1ISNXS _ => true
  | .tlbi_IPAS2E1OSNXS _ => true
  | .tlbi_IPAS2E1NXS _ => true
  | .tlbi_RIPAS2E1NXS _ => true
  | .tlbi_RIPAS2E1OSNXS _ => true
  | .tlbi_IPAS2LE1OSNXS _ => true
  | .tlbi_IPAS2LE1NXS _ => true
  | .tlbi_RIPAS2LE1NXS _ => true
  | .tlbi_RIPAS2LE1OSNXS _ => true
  | .tlbi_RVAE2OSNXS _ => true
  | .tlbi_RVALE2OSNXS _ => true
  | .tlbi_RVAE2NXS _ => true
  | .tlbi_RVALE2NXS _ => true
  | .tlbi_ALLE2NXS _ => true
  | .tlbi_VAE2NXS _ => true
  | .tlbi_ALLE1NXS _ => true
  | .tlbi_VALE2NXS _ => true
  | .tlbi_VMALLS12E1NXS _ => true
  | .eret => true
  | .eretaa => true
  | .eretab => true
  | .smc _ => true

end Sys2Proof
end

