-- ==== Sys2Proof/Decode.lean ====
section
/-! DEFINITION. The decoder, total on any bytes and rejecting by name, and after it the
encoder, both from the formats of R70 to R75 and the operation lists of R78 and R79. -/

namespace Sys2Proof

/-- Why bytes are not an instruction of this model. -/
inductive DecodeError where
  /-- Fewer than the four bytes of an instruction word (R70). -/
  | tooShort
  /-- The word is no row of spec/opcode_table.json: the spec admits nothing else
  (00_scope.md section 7, item 3). -/
  | notAdmitted
  /-- MRRS or MSRR with an odd Rt: "Rt must be even and not 31" (R72). -/
  | oddPair
  deriving DecidableEq, Repr

/-- The register operand of format SYSREG or SYSREG128 (R71, R72). -/
def sysEncOf (w : BitVec 32) : SysEnc where
  o0 := w.extractLsb' 19 1
  op1 := w.extractLsb' 16 3
  crn := w.extractLsb' 12 4
  crm := w.extractLsb' 8 4
  op2 := w.extractLsb' 5 3

/-- The field Rt, bits [4:0] of every format with a register operand (R71 to R73). -/
def rtOf (w : BitVec 32) : BitVec 5 := w.extractLsb' 0 5

/-- AT operations accessible from EL1 (R78). -/
def atRowsEL1 : List (BitVec 32 × (BitVec 5 → Instr)) :=
  [ (0xD5087800#32, .at_S1E1R),
    (0xD5087820#32, .at_S1E1W),
    (0xD5087840#32, .at_S1E0R),
    (0xD5087860#32, .at_S1E0W),
    (0xD5087900#32, .at_S1E1RP),
    (0xD5087920#32, .at_S1E1WP),
    (0xD5087940#32, .at_S1E1A) ]

/-- AT operations accessible only from EL2 and above (R78). -/
def atRowsEL2 : List (BitVec 32 × (BitVec 5 → Instr)) :=
  [ (0xD50C7800#32, .at_S1E2R),
    (0xD50C7820#32, .at_S1E2W),
    (0xD50C7880#32, .at_S12E1R),
    (0xD50C78A0#32, .at_S12E1W),
    (0xD50C78C0#32, .at_S12E0R),
    (0xD50C78E0#32, .at_S12E0W),
    (0xD50C7940#32, .at_S1E2A) ]

/-- TLBI operations accessible only from EL2 and above (R79). -/
def tlbiRows : List (BitVec 32 × (BitVec 5 → Instr)) :=
  [ (0xD50C8020#32, .tlbi_IPAS2E1IS),
    (0xD50C8040#32, .tlbi_RIPAS2E1IS),
    (0xD50C80A0#32, .tlbi_IPAS2LE1IS),
    (0xD50C80C0#32, .tlbi_RIPAS2LE1IS),
    (0xD50C8100#32, .tlbi_ALLE2OS),
    (0xD50C8120#32, .tlbi_VAE2OS),
    (0xD50C8180#32, .tlbi_ALLE1OS),
    (0xD50C81A0#32, .tlbi_VALE2OS),
    (0xD50C81C0#32, .tlbi_VMALLS12E1OS),
    (0xD50C8220#32, .tlbi_RVAE2IS),
    (0xD50C82A0#32, .tlbi_RVALE2IS),
    (0xD50C8300#32, .tlbi_ALLE2IS),
    (0xD50C8320#32, .tlbi_VAE2IS),
    (0xD50C8380#32, .tlbi_ALLE1IS),
    (0xD50C83A0#32, .tlbi_VALE2IS),
    (0xD50C83C0#32, .tlbi_VMALLS12E1IS),
    (0xD50C8400#32, .tlbi_IPAS2E1OS),
    (0xD50C8420#32, .tlbi_IPAS2E1),
    (0xD50C8440#32, .tlbi_RIPAS2E1),
    (0xD50C8460#32, .tlbi_RIPAS2E1OS),
    (0xD50C8480#32, .tlbi_IPAS2LE1OS),
    (0xD50C84A0#32, .tlbi_IPAS2LE1),
    (0xD50C84C0#32, .tlbi_RIPAS2LE1),
    (0xD50C84E0#32, .tlbi_RIPAS2LE1OS),
    (0xD50C8520#32, .tlbi_RVAE2OS),
    (0xD50C85A0#32, .tlbi_RVALE2OS),
    (0xD50C8620#32, .tlbi_RVAE2),
    (0xD50C86A0#32, .tlbi_RVALE2),
    (0xD50C8700#32, .tlbi_ALLE2),
    (0xD50C8720#32, .tlbi_VAE2),
    (0xD50C8780#32, .tlbi_ALLE1),
    (0xD50C87A0#32, .tlbi_VALE2),
    (0xD50C87C0#32, .tlbi_VMALLS12E1) ]

/-- The nXS forms of the same TLBI operations (R79). -/
def tlbiRowsNXS : List (BitVec 32 × (BitVec 5 → Instr)) :=
  [ (0xD50C9020#32, .tlbi_IPAS2E1ISNXS),
    (0xD50C9040#32, .tlbi_RIPAS2E1ISNXS),
    (0xD50C90A0#32, .tlbi_IPAS2LE1ISNXS),
    (0xD50C90C0#32, .tlbi_RIPAS2LE1ISNXS),
    (0xD50C9100#32, .tlbi_ALLE2OSNXS),
    (0xD50C9120#32, .tlbi_VAE2OSNXS),
    (0xD50C9180#32, .tlbi_ALLE1OSNXS),
    (0xD50C91A0#32, .tlbi_VALE2OSNXS),
    (0xD50C91C0#32, .tlbi_VMALLS12E1OSNXS),
    (0xD50C9220#32, .tlbi_RVAE2ISNXS),
    (0xD50C92A0#32, .tlbi_RVALE2ISNXS),
    (0xD50C9300#32, .tlbi_ALLE2ISNXS),
    (0xD50C9320#32, .tlbi_VAE2ISNXS),
    (0xD50C9380#32, .tlbi_ALLE1ISNXS),
    (0xD50C93A0#32, .tlbi_VALE2ISNXS),
    (0xD50C93C0#32, .tlbi_VMALLS12E1ISNXS),
    (0xD50C9400#32, .tlbi_IPAS2E1OSNXS),
    (0xD50C9420#32, .tlbi_IPAS2E1NXS),
    (0xD50C9440#32, .tlbi_RIPAS2E1NXS),
    (0xD50C9460#32, .tlbi_RIPAS2E1OSNXS),
    (0xD50C9480#32, .tlbi_IPAS2LE1OSNXS),
    (0xD50C94A0#32, .tlbi_IPAS2LE1NXS),
    (0xD50C94C0#32, .tlbi_RIPAS2LE1NXS),
    (0xD50C94E0#32, .tlbi_RIPAS2LE1OSNXS),
    (0xD50C9520#32, .tlbi_RVAE2OSNXS),
    (0xD50C95A0#32, .tlbi_RVALE2OSNXS),
    (0xD50C9620#32, .tlbi_RVAE2NXS),
    (0xD50C96A0#32, .tlbi_RVALE2NXS),
    (0xD50C9700#32, .tlbi_ALLE2NXS),
    (0xD50C9720#32, .tlbi_VAE2NXS),
    (0xD50C9780#32, .tlbi_ALLE1NXS),
    (0xD50C97A0#32, .tlbi_VALE2NXS),
    (0xD50C97C0#32, .tlbi_VMALLS12E1NXS) ]

/-- Every row of format SYS: the word with Rt zero and its instruction (R73, R78, R79). -/
def sysRows : List (BitVec 32 × (BitVec 5 → Instr)) :=
  atRowsEL1 ++ atRowsEL2 ++ tlbiRows ++ tlbiRowsNXS

/-- A 128-bit register access, whose Rt must be even (R72). -/
def decodePair (i : SysEnc → BitVec 5 → Instr) (w : BitVec 32) : Except DecodeError Instr :=
  if rtOf w &&& 1#5 = 0#5 then .ok (i (sysEncOf w) (rtOf w)) else .error .oddPair

/-- The operations of format SYS, found by the word with Rt masked out (R73). -/
def decodeSys (w : BitVec 32) : Except DecodeError Instr :=
  match sysRows.find? (fun p => p.1 == (w &&& 0xFFFFFFE0#32)) with
  | some p => .ok (p.2 (rtOf w))
  | none => .error .notAdmitted

/-- The instruction a 32-bit word stands for (R71 to R75). DESIGN CHOICE (assumption 52): the 128-bit TLBIP
forms of FEAT_D128 are no instruction of the model, so a word of one is refused as not admitted; R79 does
not cover them, no row of the opcode table is one, and 00_scope.md section 5 leaves the model to decide. -/
def decodeWord (w : BitVec 32) : Except DecodeError Instr :=
  if w.extractLsb' 20 12 = 0xD53#12 then .ok (.mrs (sysEncOf w) (rtOf w))
  else if w.extractLsb' 20 12 = 0xD51#12 then .ok (.msr (sysEncOf w) (rtOf w))
  else if w.extractLsb' 20 12 = 0xD57#12 then decodePair .mrrs w
  else if w.extractLsb' 20 12 = 0xD55#12 then decodePair .msrr w
  else if w.extractLsb' 20 12 = 0xD50#12 then decodeSys w
  else if w = 0xD69F03E0#32 then .ok .eret
  else if w = 0xD69F0BFF#32 then .ok .eretaa
  else if w = 0xD69F0FFF#32 then .ok .eretab
  else if w.extractLsb' 21 11 = 0x6A0#11 ∧ w.extractLsb' 0 5 = 3#5 then
    .ok (.smc (w.extractLsb' 5 16))
  else .error .notAdmitted

/-- Four bytes as one word, the first byte least significant (R70: read little-endian). -/
def wordOfBytes (b0 b1 b2 b3 : Byte) : BitVec 32 := b3 ++ b2 ++ b1 ++ b0

/-- The first instruction of a list of bytes and the bytes after it. -/
def decode : List Byte → Except DecodeError (Instr × List Byte)
  | b0 :: b1 :: b2 :: b3 :: rest =>
    match decodeWord (wordOfBytes b0 b1 b2 b3) with
    | .ok i => .ok (i, rest)
    | .error e => .error e
  | _ => .error .tooShort

/-- The four bytes of a word as memory holds them (R70). -/
def bytesOfWord (w : BitVec 32) : List Byte :=
  [w.extractLsb' 0 8, w.extractLsb' 8 8, w.extractLsb' 16 8, w.extractLsb' 24 8]

/-- The bytes of a table word: `nbits` bits, every bit above them zero. -/
def bytesOfTableWord (nbits w : Nat) : List Byte := bytesOfWord (BitVec.ofNat 32 (w % 2 ^ nbits))

/-- What the decoder reads from a word of spec/opcode_table.json stored as the hardware stores it. -/
def decodeTableWord (nbits w : Nat) : Option Instr :=
  match decode (bytesOfTableWord nbits w) with
  | .ok (i, _) => some i
  | .error _ => none

/-- The word of format SYSREG or SYSREG128 with these upper twelve bits (R71, R72). -/
def sysRegWord (top : BitVec 12) (e : SysEnc) (rt : BitVec 5) : BitVec 32 :=
  top ++ e.o0 ++ e.op1 ++ e.crn ++ e.crm ++ e.op2 ++ rt

/-- The word of format SYS with this base word (R73). -/
def sysWord (base : BitVec 32) (rt : BitVec 5) : BitVec 32 := base ||| rt.setWidth 32

/-- The word of an instruction (R71 to R75, R78, R79). -/
def encode : Instr → BitVec 32
  | .mrs e rt => sysRegWord 0xD53#12 e rt
  | .msr e rt => sysRegWord 0xD51#12 e rt
  | .mrrs e rt => sysRegWord 0xD57#12 e rt
  | .msrr e rt => sysRegWord 0xD55#12 e rt
  | .at_S1E1R rt => sysWord 0xD5087800#32 rt
  | .at_S1E1W rt => sysWord 0xD5087820#32 rt
  | .at_S1E0R rt => sysWord 0xD5087840#32 rt
  | .at_S1E0W rt => sysWord 0xD5087860#32 rt
  | .at_S1E1RP rt => sysWord 0xD5087900#32 rt
  | .at_S1E1WP rt => sysWord 0xD5087920#32 rt
  | .at_S1E1A rt => sysWord 0xD5087940#32 rt
  | .at_S1E2R rt => sysWord 0xD50C7800#32 rt
  | .at_S1E2W rt => sysWord 0xD50C7820#32 rt
  | .at_S12E1R rt => sysWord 0xD50C7880#32 rt
  | .at_S12E1W rt => sysWord 0xD50C78A0#32 rt
  | .at_S12E0R rt => sysWord 0xD50C78C0#32 rt
  | .at_S12E0W rt => sysWord 0xD50C78E0#32 rt
  | .at_S1E2A rt => sysWord 0xD50C7940#32 rt
  | .tlbi_IPAS2E1IS rt => sysWord 0xD50C8020#32 rt
  | .tlbi_RIPAS2E1IS rt => sysWord 0xD50C8040#32 rt
  | .tlbi_IPAS2LE1IS rt => sysWord 0xD50C80A0#32 rt
  | .tlbi_RIPAS2LE1IS rt => sysWord 0xD50C80C0#32 rt
  | .tlbi_ALLE2OS rt => sysWord 0xD50C8100#32 rt
  | .tlbi_VAE2OS rt => sysWord 0xD50C8120#32 rt
  | .tlbi_ALLE1OS rt => sysWord 0xD50C8180#32 rt
  | .tlbi_VALE2OS rt => sysWord 0xD50C81A0#32 rt
  | .tlbi_VMALLS12E1OS rt => sysWord 0xD50C81C0#32 rt
  | .tlbi_RVAE2IS rt => sysWord 0xD50C8220#32 rt
  | .tlbi_RVALE2IS rt => sysWord 0xD50C82A0#32 rt
  | .tlbi_ALLE2IS rt => sysWord 0xD50C8300#32 rt
  | .tlbi_VAE2IS rt => sysWord 0xD50C8320#32 rt
  | .tlbi_ALLE1IS rt => sysWord 0xD50C8380#32 rt
  | .tlbi_VALE2IS rt => sysWord 0xD50C83A0#32 rt
  | .tlbi_VMALLS12E1IS rt => sysWord 0xD50C83C0#32 rt
  | .tlbi_IPAS2E1OS rt => sysWord 0xD50C8400#32 rt
  | .tlbi_IPAS2E1 rt => sysWord 0xD50C8420#32 rt
  | .tlbi_RIPAS2E1 rt => sysWord 0xD50C8440#32 rt
  | .tlbi_RIPAS2E1OS rt => sysWord 0xD50C8460#32 rt
  | .tlbi_IPAS2LE1OS rt => sysWord 0xD50C8480#32 rt
  | .tlbi_IPAS2LE1 rt => sysWord 0xD50C84A0#32 rt
  | .tlbi_RIPAS2LE1 rt => sysWord 0xD50C84C0#32 rt
  | .tlbi_RIPAS2LE1OS rt => sysWord 0xD50C84E0#32 rt
  | .tlbi_RVAE2OS rt => sysWord 0xD50C8520#32 rt
  | .tlbi_RVALE2OS rt => sysWord 0xD50C85A0#32 rt
  | .tlbi_RVAE2 rt => sysWord 0xD50C8620#32 rt
  | .tlbi_RVALE2 rt => sysWord 0xD50C86A0#32 rt
  | .tlbi_ALLE2 rt => sysWord 0xD50C8700#32 rt
  | .tlbi_VAE2 rt => sysWord 0xD50C8720#32 rt
  | .tlbi_ALLE1 rt => sysWord 0xD50C8780#32 rt
  | .tlbi_VALE2 rt => sysWord 0xD50C87A0#32 rt
  | .tlbi_VMALLS12E1 rt => sysWord 0xD50C87C0#32 rt
  | .tlbi_IPAS2E1ISNXS rt => sysWord 0xD50C9020#32 rt
  | .tlbi_RIPAS2E1ISNXS rt => sysWord 0xD50C9040#32 rt
  | .tlbi_IPAS2LE1ISNXS rt => sysWord 0xD50C90A0#32 rt
  | .tlbi_RIPAS2LE1ISNXS rt => sysWord 0xD50C90C0#32 rt
  | .tlbi_ALLE2OSNXS rt => sysWord 0xD50C9100#32 rt
  | .tlbi_VAE2OSNXS rt => sysWord 0xD50C9120#32 rt
  | .tlbi_ALLE1OSNXS rt => sysWord 0xD50C9180#32 rt
  | .tlbi_VALE2OSNXS rt => sysWord 0xD50C91A0#32 rt
  | .tlbi_VMALLS12E1OSNXS rt => sysWord 0xD50C91C0#32 rt
  | .tlbi_RVAE2ISNXS rt => sysWord 0xD50C9220#32 rt
  | .tlbi_RVALE2ISNXS rt => sysWord 0xD50C92A0#32 rt
  | .tlbi_ALLE2ISNXS rt => sysWord 0xD50C9300#32 rt
  | .tlbi_VAE2ISNXS rt => sysWord 0xD50C9320#32 rt
  | .tlbi_ALLE1ISNXS rt => sysWord 0xD50C9380#32 rt
  | .tlbi_VALE2ISNXS rt => sysWord 0xD50C93A0#32 rt
  | .tlbi_VMALLS12E1ISNXS rt => sysWord 0xD50C93C0#32 rt
  | .tlbi_IPAS2E1OSNXS rt => sysWord 0xD50C9400#32 rt
  | .tlbi_IPAS2E1NXS rt => sysWord 0xD50C9420#32 rt
  | .tlbi_RIPAS2E1NXS rt => sysWord 0xD50C9440#32 rt
  | .tlbi_RIPAS2E1OSNXS rt => sysWord 0xD50C9460#32 rt
  | .tlbi_IPAS2LE1OSNXS rt => sysWord 0xD50C9480#32 rt
  | .tlbi_IPAS2LE1NXS rt => sysWord 0xD50C94A0#32 rt
  | .tlbi_RIPAS2LE1NXS rt => sysWord 0xD50C94C0#32 rt
  | .tlbi_RIPAS2LE1OSNXS rt => sysWord 0xD50C94E0#32 rt
  | .tlbi_RVAE2OSNXS rt => sysWord 0xD50C9520#32 rt
  | .tlbi_RVALE2OSNXS rt => sysWord 0xD50C95A0#32 rt
  | .tlbi_RVAE2NXS rt => sysWord 0xD50C9620#32 rt
  | .tlbi_RVALE2NXS rt => sysWord 0xD50C96A0#32 rt
  | .tlbi_ALLE2NXS rt => sysWord 0xD50C9700#32 rt
  | .tlbi_VAE2NXS rt => sysWord 0xD50C9720#32 rt
  | .tlbi_ALLE1NXS rt => sysWord 0xD50C9780#32 rt
  | .tlbi_VALE2NXS rt => sysWord 0xD50C97A0#32 rt
  | .tlbi_VMALLS12E1NXS rt => sysWord 0xD50C97C0#32 rt
  | .eret => 0xD69F03E0#32
  | .eretaa => 0xD69F0BFF#32
  | .eretab => 0xD69F0FFF#32
  | .smc imm16 => 0x6A0#11 ++ imm16 ++ 3#5

/-- The bytes of an instruction, in the order memory holds them. -/
def encodeBytes (i : Instr) : List Byte := bytesOfWord (encode i)

end Sys2Proof
end

