-- ==== Sys2Proof/Machine/Fetch.lean ====
section
/-! DEFINITION. The instruction side of a step: the pending exceptions of the base architecture
on an instruction (R214: they are taken first, "because the instruction is never decoded"), the
fetch of its four bytes through the regime of the current level (R40, R70), and the code a
decoding error is refused with. -/

namespace Sys2Proof.Machine

/-- The regime that translates fetches at the current level; none at EL3, which the source does
not name (assumption 8). At EL0 it is the EL2&0 regime while HCR_EL2.E2H and TGE are both 1 and the EL1&0
regime otherwise (PRESUMED, assumption 8): R40 names the regimes and not which of them EL0 uses. At EL2 it is
the EL2&0 regime while HCR_EL2.E2H is 1 and the EL2 regime otherwise (PRESUMED, assumption 8): R40 and R54 say
so of a transformed access only. -/
def fetchRegime (s : State) : Option Regime :=
  match s.pstate.el with
  | .EL0 => if effE2H s && effTGE s then some .el20 else some .el10
  | .EL1 => some .el10
  | .EL2 => some (el2Regime s)
  | .EL3 => none

/-- Whether the permissions forbid execution at the current level: PXN at EL1 (R42, R47) and at
EL2 in the EL2&0 regime, bit 54 in the EL2 regime, UXN at EL0; where UXN is open it is free. -/
def executeNever (s : State) (g : Regime) (p : Perms) : Bool :=
  match s.pstate.el, g with
  | .EL0, _ => p.uxn.getD (s.free.getLsbD 0)
  | _, .el2 => p.uxn.getD (s.free.getLsbD 0)
  | _, _ => p.pxn

/-- What a fetch comes to. -/
inductive Fetched where
  | word (w : BitVec 32) (s : State)
  | stops (s : State)
  deriving DecidableEq, Repr

/-- The Instruction Abort (R214; its class and syndrome are assumption 32): class 0x20 from a
lower level, 0x21 from the current one. DESIGN CHOICE (assumption 32): an External abort of a fetch is taken
to the same level as every other Instruction Abort, also where External aborts are configured to be taken to
EL3, which R211 says of transformed accesses only. -/
def instructionAbort (s : State) (fsc : BitVec 6) : State :=
  let tgt := excTarget (baseTarget s) s.pstate.el
  takeException
    { target := tgt,
      syndrome := .value (if s.pstate.el.num < tgt.num then 0x20#6 else 0x21#6) (fsc.setWidth 25),
      far := .address s.pc, ret := s.pc } s

/-- The word that memory holds at a physical address (R70). -/
def wordAt (m : Memory) (pa : Nat) : BitVec 32 :=
  wordOfBytes (m.read pa) (m.read (pa + 1)) (m.read (pa + 2)) (m.read (pa + 3))

/-- The fetch of the instruction at the program counter. DESIGN CHOICE (assumption 51): there is no
instruction cache, so a fetch reads memory as it is and sees every earlier store of the PE at once, the
store of a transformed MSR among them; R66 and R269 give no rule for it (91 N23). -/
def fetchWord (s : State) : Fetched :=
  match fetchRegime s with
  | none => .word (wordAt s.mem s.pc.toNat) s
  | some g =>
    let (nv1, t) := regimeReading s g
    match translate s g nv1 s.pc with
    | .fault fsc => .stops (instructionAbort t fsc)
    | .ok pa p level _ ea =>
      if executeNever t g p then .stops (instructionAbort (t.drawn 1) (permissionFault level))
      else if ea then .stops (instructionAbort (t.drawn 1) 0b010000#6)
      else .word (wordAt s.mem pa) (t.drawn (if p.uxn = none then 1 else 0))

/-- The physical address the fetch reads. -/
def fetchAddress (s : State) : Nat :=
  match fetchRegime s with
  | none => s.pc.toNat
  | some g =>
    match translate s g (regimeReading s g).1 s.pc with
    | .fault _ => s.pc.toNat
    | .ok pa _ _ _ _ => pa

/-- The pending instruction-side exceptions that have nothing to do with the fetch, in the order
of assumption 32: one the state lists for this instruction at this level (R226: a transformed
access counts as an EL1 instruction), PC alignment (R70), Illegal Execution state. DESIGN CHOICE
(assumption 32): an exception that the state lists stays listed when it is taken, since no step removes one,
and of the three only PC alignment writes FAR. -/
def instructionSide (s : State) : Option State :=
  match s.dbg.instrEvents.find?
      (fun v => v.addr == s.pc && v.el == s.pstate.el && s.cfg.hasEL v.target) with
  | some v =>
    some (takeException
      { target := v.target, syndrome := .value v.ec v.iss, far := .keep, ret := s.pc } s)
  | none =>
    if s.pc.extractLsb' 0 2 ≠ 0#2 then
      some (takeException
        { target := baseTarget s, syndrome := .value 0x22#6 0#25, far := .address s.pc,
          ret := s.pc } s)
    else if s.pstate.il then
      some (takeException
        { target := baseTarget s, syndrome := .value 0x0E#6 0#25, far := .keep, ret := s.pc } s)
    else none

/-- The instruction side of a step: it starts with no events, and a fetched instruction counts
as executed at the current level (R226). DESIGN CHOICE (assumption 33): so does one that is then trapped or
UNDEFINED, of which R200 says that it does not execute and no rule says whether it is counted. -/
def instructionOrException (s : State) : Fetched :=
  let s0 := { s with events := [] }
  match instructionSide s0 with
  | some t => .stops t
  | none =>
    match fetchWord s0 with
    | .stops t => .stops t
    | .word w t => .word w (t.record [.executed s.pstate.el])

/-- The refusal a word that is no instruction of the model meets. -/
def refusalOf : DecodeError → Refusal
  | .tooShort => .notAdmitted
  | .notAdmitted => .notAdmitted
  | .oddPair => .oddPair

/-- The state with the bytes of a table word where the next fetch reads them. -/
def storeFetchWord (s : State) (nbits w : Nat) : State :=
  { s with mem := s.mem.writeBytes (fetchAddress s) (bytesOfTableWord nbits w) }

end Sys2Proof.Machine
end

