-- ==== Sys2Proof/Machine/Step.lean ====
section
/-! DEFINITION. One step: the instruction side, the decoder and the meaning of the instruction. -/

namespace Sys2Proof.Machine

/-- One step of the machine: nothing in Debug state (R229); R51's refusal; the pending exceptions
of the instruction side (R214) and the fetch (R70); then the instruction the word stands for. -/
def step (s : State) : Host.Outcome State Fault Refusal :=
  if s.dbg.halted then .fault .debugState
  else if el0UnderNV1 s then .refused .el0UnderNV1
  else
    match instructionOrException s with
    | .stops t => .next t
    | .word w t =>
      match decodeWord w with
      | .ok i => exec i t
      | .error e => .refused (refusalOf e)

/-- The state with this word of spec/opcode_table.json where the next fetch reads it. -/
def State.withFetchWord (s : State) (nbits w : Nat) : State := storeFetchWord s nbits w

end Sys2Proof.Machine
end

