-- ==== Sys2Proof/Safety.lean ====
section
/-! DEFINITION. The terms in which the statements speak: the invariant of the machine, frames (what
an instruction leaves unchanged), exception entry as R213 tells it, and the operands of an
instruction as its word holds them. None of it is used by the machine. -/

namespace Sys2Proof.Machine

/-! ## The invariant -/

/-- What every step keeps: memory and the register store are in canonical form, `TLBHeldNV` is a set
(R35), the current Exception level is one the implementation has (R33), and EL0 runs on its own
stack pointer (R25: M[0] is 0 for SP_EL0). -/
def State.Inv (s : State) : Prop :=
  s.mem.wf = true ∧ RegStore.wf s.regs = true ∧ s.tlbHeldNV.Nodup ∧
    s.cfg.hasEL s.pstate.el = true ∧ (s.pstate.el = .EL0 → s.pstate.sp = false)

/-! ## Frames -/

/-- Every System and Special-purpose register but the storage of these is unchanged. -/
def KeepsRegsBut (rs : List RegName) (s t : State) : Prop :=
  ∀ r, storageName r ∉ rs → t.reg128 r = s.reg128 r

/-- Every general register but these is unchanged. -/
def KeepsGprsBut (ks : List (BitVec 5)) (s t : State) : Prop := ∀ k, k ∉ ks → t.x k = s.x k

/-- Every byte of memory is unchanged. -/
def KeepsMemory (s t : State) : Prop := ∀ a, t.mem.read a = s.mem.read a

/-- Every byte of memory but `n` bytes from `a` upwards is unchanged. -/
def KeepsMemoryBut (a n : Nat) (s t : State) : Prop :=
  ∀ b, ¬(a ≤ b ∧ b < a + n) → t.mem.read b = s.mem.read b

/-- What no instruction of the spec changes: the implementation (assumption 1), the Security state
(assumption 50), what translation answers (assumption 7), the profiling inputs (assumption 55). -/
def KeepsSurroundings (s t : State) : Prop :=
  t.cfg = s.cfg ∧ t.sec = s.sec ∧ t.mappings = s.mappings ∧ t.profiling = s.profiling

/-- Execution goes on at the next instruction (R32; wrapping at the top of the address space is assumption
45), process state, the TLB and debug (assumption 54) as before. -/
def Continues (s t : State) : Prop :=
  t.pc = s.pc + 4#64 ∧ t.pstate = s.pstate ∧ t.tlbHeldNV = s.tlbHeldNV ∧ t.dbg = s.dbg ∧
    KeepsSurroundings s t

/-- A value arrives in Xt, or is discarded when t is 31, and no other general register changes
(R31). -/
def Loads (rt : BitVec 5) (v : Word) (s t : State) : Prop :=
  t.x rt = (if rt = 31#5 then 0#64 else v) ∧ KeepsGprsBut [rt] s t

/-! ## Exceptions -/

/-- Entry to EL2 as `TakeToEL2` of R213 writes it, but for FAR_EL2, with the frame the rule states:
"No register other than those named is changed by the entry". PAN, UAO and the other fields the
rule leaves to the base architecture are not constrained. That the debug inputs stay, which are no
registers, is assumption 54. -/
def EntersEL2 (ec : BitVec 6) (iss : BitVec 25) (s t : State) : Prop :=
  t.reg ⟨.ESR, .EL2, 0⟩ = (ec.setWidth 64 <<< 26 ||| 1#64 <<< 25 ||| iss.setWidth 64) ∧
    t.reg ⟨.ELR, .EL2, 0⟩ = s.pc ∧ t.reg ⟨.SPSR, .EL2, 0⟩ = s.pstate.image ∧
    t.pstate.el = .EL2 ∧ t.pstate.sp = true ∧ t.pstate.d = true ∧ t.pstate.a = true ∧
    t.pstate.i = true ∧ t.pstate.f = true ∧ t.pstate.nzcv = s.pstate.nzcv ∧
    t.pc = s.reg ⟨.VBAR, .EL2, 0⟩ + 0x400#64 ∧
    KeepsRegsBut [⟨.ESR, .EL2, 0⟩, ⟨.FAR, .EL2, 0⟩, ⟨.ELR, .EL2, 0⟩, ⟨.SPSR, .EL2, 0⟩] s t ∧
    KeepsGprsBut [] s t ∧ KeepsMemory s t ∧ t.tlbHeldNV = s.tlbHeldNV ∧ t.dbg = s.dbg ∧
    t.events = s.events ∧ KeepsSurroundings s t

/-- A trap to EL2 (R200): the entry of R213 with no address, FAR_EL2 as before. -/
def TrapsToEL2 (ec : BitVec 6) (iss : BitVec 25) (s t : State) : Prop :=
  EntersEL2 ec iss s t ∧ t.reg ⟨.FAR, .EL2, 0⟩ = s.reg ⟨.FAR, .EL2, 0⟩

/-- The Undefined Instruction exception taken from EL1 to EL1 (92 D27, with R125 and R204): class 0
in ESR_EL1, the instruction as return address, process state saved with the M[3:2] of R204. That the debug
inputs stay, although PSTATE.D changes, is the model's choice (assumption 54). -/
def UndefinedAtEL1 (s t : State) : Prop :=
  t.reg ⟨.ESR, .EL1, 0⟩ = 1#64 <<< 25 ∧ t.reg ⟨.ELR, .EL1, 0⟩ = s.pc ∧
    t.reg ⟨.SPSR, .EL1, 0⟩ =
      s.pstate.imageWith
        (if (effNV s).nv ∧ ((effNV s).nv1 = false ∨ (effNV s).nv2) then 0b10#2 else 0b01#2) ∧
    t.pstate.el = .EL1 ∧ t.pstate.sp = true ∧ t.pstate.d = true ∧ t.pstate.a = true ∧
    t.pstate.i = true ∧ t.pstate.f = true ∧ t.pstate.nzcv = s.pstate.nzcv ∧
    KeepsRegsBut [⟨.ESR, .EL1, 0⟩, ⟨.ELR, .EL1, 0⟩, ⟨.SPSR, .EL1, 0⟩] s t ∧
    KeepsGprsBut [] s t ∧ KeepsMemory s t ∧ t.tlbHeldNV = s.tlbHeldNV ∧ t.dbg = s.dbg ∧
    t.events = s.events ∧ KeepsSurroundings s t

/-- The Instruction Abort of a fetch, taken to a level (R214; its class, 0x20 from a lower level and 0x21
from the current one, and its syndrome are assumption 32): the address is in FAR, the instruction is the
return address, and nothing was executed. That the debug inputs stay, although PSTATE.D changes, is the
model's choice (assumption 54). -/
def AbortsFetch (fsc : BitVec 6) (l : EL) (s t : State) : Prop :=
  t.pstate.el = l ∧
    t.reg ⟨.ESR, elSuffix l, 0⟩ =
      ((if s.pstate.el.num < l.num then 0x20#64 else 0x21#64) <<< 26 ||| 1#64 <<< 25 |||
        fsc.setWidth 64) ∧
    t.reg ⟨.FAR, elSuffix l, 0⟩ = s.pc ∧ t.reg ⟨.ELR, elSuffix l, 0⟩ = s.pc ∧
    KeepsRegsBut [⟨.ESR, elSuffix l, 0⟩, ⟨.FAR, elSuffix l, 0⟩, ⟨.ELR, elSuffix l, 0⟩,
      ⟨.SPSR, elSuffix l, 0⟩] s t ∧
    KeepsGprsBut [] s t ∧ KeepsMemory s t ∧ t.tlbHeldNV = s.tlbHeldNV ∧ t.dbg = s.dbg ∧
    t.events = [] ∧ KeepsSurroundings s t

/-- The fields of process state that an exception return takes from an SPSR image whether or not the
image is legal (R26; the positions are assumption 19). -/
def RestoresFields (v : Word) (p : PState) : Prop :=
  p.d = v.getLsbD 9 ∧ p.a = v.getLsbD 8 ∧ p.i = v.getLsbD 7 ∧ p.f = v.getLsbD 6 ∧
    p.nzcv = v.extractLsb' 28 4 ∧ p.pan = v.getLsbD 22 ∧ p.uao = v.getLsbD 23 ∧
    p.ss = v.getLsbD 21 ∧ p.ssbs = v.getLsbD 12 ∧ p.tco = v.getLsbD 25 ∧ p.dit = v.getLsbD 24 ∧
    p.btype = v.extractLsb' 10 2

/-- Process state as an SPSR image describes it (R25, R26; the other positions are assumption 19). -/
def RestoresPState (v : Word) (p : PState) : Prop :=
  p.el.bits = v.extractLsb' 2 2 ∧ p.sp = v.getLsbD 0 ∧ p.il = v.getLsbD 20 ∧ RestoresFields v p

/-- Whether an SPSR image names a state that the PE can return to from its level (assumption 20):
AArch64, M[1] 0, a level that is implemented and not above the current one, SP_EL0 at EL0. -/
def LegalImage (s : State) (v : Word) : Prop :=
  v.getLsbD 4 = false ∧ v.getLsbD 1 = false ∧ (v.extractLsb' 2 2).toNat ≤ s.pstate.el.num ∧
    (v.extractLsb' 2 2 = 2#2 → s.cfg.el2Enabled = true) ∧
    (v.extractLsb' 2 2 = 3#2 → s.cfg.haveEL3 = true) ∧
    (v.extractLsb' 2 2 = 0#2 → v.getLsbD 0 = false)

/-! ## Conditions -/

/-- Nothing of the base architecture stands in the way of a register access: the register is
implemented (R161), no trap to EL3 applies (R101), the access is not UNDEFINED at this level
(R100, R101) and no other trap is due (R163). -/
def Accessible (s : State) (r : RegName) (dir : Dir) : Prop :=
  implemented s.cfg r = true ∧ (s.pstate.el = .EL3 ∨ el3TrapHigher s r dir = false) ∧
    undefinedHere s r dir = false ∧ otherTrap s (.reg r dir) = none

/-- The memory access of a transformed register access meets no abort (R205, R211), and no
watchpoint matches it or neither R229 nor R230 makes an event of a match: `pa` is the physical
address it reads or writes. -/
def AccessCompletes (s : State) (off : BitVec 12) (size : Nat) (dir : Dir) (pa : Nat)
    (wb : Bool) : Prop :=
  (∃ perms level, translate s (el2Regime s) false (vncrAddress s off) = .ok pa perms level wb false ∧
      dataPermitted perms true false dir = true) ∧
    ((∀ w ∈ s.dbg.watchpoints, watchpointMatches w (vncrAddress s off) size dir = false) ∨
      s.dbg.osLockUnlocked = false ∨
      (s.dbg.debugExceptionsEL2 = false ∧ (s.dbg.hde && s.dbg.haltingAllowed) = false))

/-- The access to memory that an instruction is transformed into (R155, R166): its offset, size and
direction. -/
def TransformsTo (s : State) (i : Instr) (off : BitVec 12) (size : Nat) (dir : Dir) : Prop :=
  (∃ e rt, i = .mrs e rt ∧ size = 8 ∧ dir = .read ∧
      classifyRegAccess s (sysRegName s.cfg e) .read false = .transform off) ∨
    (∃ e rt, i = .msr e rt ∧ size = 8 ∧ dir = .write ∧
      classifyRegAccess s (sysRegName s.cfg e) .write false = .transform off) ∨
    (∃ e rt, i = .mrrs e rt ∧ size = 16 ∧ dir = .read ∧
      classifyRegAccess s (sysRegName s.cfg e) .read true = .transform off) ∨
    (∃ e rt, i = .msrr e rt ∧ size = 16 ∧ dir = .write ∧
      classifyRegAccess s (sysRegName s.cfg e) .write true = .transform off)

/-- The ISS of a Data Abort or Watchpoint of a transformed access (R209, R232): VNCR is bit 13 and
1, WnR is bit 6, the status code is bits 5..0. -/
def issOfVncrFault (dir : Dir) (fsc : BitVec 6) : BitVec 25 :=
  1#25 <<< 13 ||| (if dir = .write then 1#25 <<< 6 else 0#25) ||| fsc.setWidth 25

/-- The byte of a `size`-byte access that holds byte `k` of the value, byte 0 the least significant,
in the order of SCTLR_EL2.EE (R55). -/
def slotByte (s : State) (size k : Nat) : Nat := if vncrBigEndian s then size - 1 - k else k

/-- The bytes that a transformed access which completes at `pa` moves, by the form of the instruction: a
load brings the slot to Xt or the pair and changes no memory, a store puts Xt or the pair in the slot and
changes no other byte and no register (R158, R159, R166). -/
def MovesSlot (i : Instr) (pa : Nat) (s t : State) : Prop :=
  (∀ e rt, i = .mrs e rt →
    (∀ k, k < 8 → rt ≠ 31#5 →
      (t.x rt).extractLsb' (8 * k) 8 = s.mem.read (pa + slotByte s 8 k)) ∧
      KeepsGprsBut [rt] s t ∧ KeepsMemory s t) ∧
    (∀ e rt, i = .msr e rt →
      (∀ k, k < 8 → t.mem.read (pa + slotByte s 8 k) = (s.x rt).extractLsb' (8 * k) 8) ∧
        KeepsGprsBut [] s t ∧ KeepsMemoryBut pa 8 s t) ∧
    (∀ e rt, i = .mrrs e rt →
      (∀ k, k < 8 → (t.x rt).extractLsb' (8 * k) 8 = s.mem.read (pa + slotByte s 16 k)) ∧
        (∀ k, k < 8 → rt ≠ 30#5 →
          (t.x (rt + 1#5)).extractLsb' (8 * k) 8 = s.mem.read (pa + slotByte s 16 (k + 8))) ∧
        KeepsGprsBut [rt, rt + 1#5] s t ∧ KeepsMemory s t) ∧
    ∀ e rt, i = .msrr e rt →
      (∀ k, k < 8 →
        t.mem.read (pa + slotByte s 16 k) = (s.x rt).extractLsb' (8 * k) 8 ∧
          t.mem.read (pa + slotByte s 16 (k + 8)) =
            (if rt = 30#5 then 0#64 else s.x (rt + 1#5)).extractLsb' (8 * k) 8) ∧
        KeepsGprsBut [] s t ∧ KeepsMemoryBut pa 16 s t

/-- The state with what the Statistical Profiling Unit records of a transformed access added to what the
other units saw: nothing, or one Load/Store record, with the address only while profiling is enabled at
EL2 (R234, R235). -/
def profiledAt (s : State) (off : BitVec 12) : State :=
  { s with
    events := s.events ++
      if s.profiling.selects = true then
        [Event.profiled (if s.profiling.enabledEL2 = true then some (vncrAddress s off) else none)]
      else [] }

/-! ## Instructions -/

/-- The ISS of R201 and R202, "taken from the instruction word": op0 in 21..20, op2 in 19..17, op1
in 16..14, CRn in 13..10, Rt in 9..5, CRm in 4..1, and the word's bit 21, the direction, in 0. -/
def issOfWord (w : BitVec 32) : BitVec 25 :=
  (w.extractLsb' 19 2).setWidth 25 <<< 20 ||| (w.extractLsb' 5 3).setWidth 25 <<< 17 |||
    (w.extractLsb' 16 3).setWidth 25 <<< 14 ||| (w.extractLsb' 12 4).setWidth 25 <<< 10 |||
    (w.extractLsb' 0 5).setWidth 25 <<< 5 ||| (w.extractLsb' 8 4).setWidth 25 <<< 1 |||
    (w.extractLsb' 21 1).setWidth 25

/-- The fields of a word of format SYS (R73). -/
def sysOpOfWord (w : BitVec 32) : SysOp where
  op1 := w.extractLsb' 16 3
  crn := w.extractLsb' 12 4
  crm := w.extractLsb' 8 4
  op2 := w.extractLsb' 5 3

/-- The features a TLBI operation needs (R79). -/
structure TlbiNeeds where
  range : Bool
  os : Bool
  nxs : Bool
  deriving DecidableEq, Repr

/-- Whether the implementation has the features a TLBI operation needs (R79). -/
def TlbiNeeds.met (n : TlbiNeeds) (c : Config) : Prop :=
  (n.range = true → c.haveTLBIRANGE = true) ∧ (n.os = true → c.haveTLBIOS = true) ∧
    (n.nxs = true → c.haveXS = true)

/-- The AT operations (R78). -/
def atOf : Instr → Option AtOp
  | .mrs _ _ => none
  | .msr _ _ => none
  | .mrrs _ _ => none
  | .msrr _ _ => none
  | .at_S1E1R _ => some .S1E1R
  | .at_S1E1W _ => some .S1E1W
  | .at_S1E0R _ => some .S1E0R
  | .at_S1E0W _ => some .S1E0W
  | .at_S1E1RP _ => some .S1E1RP
  | .at_S1E1WP _ => some .S1E1WP
  | .at_S1E1A _ => some .S1E1A
  | .at_S1E2R _ => some .S1E2R
  | .at_S1E2W _ => some .S1E2W
  | .at_S12E1R _ => some .S12E1R
  | .at_S12E1W _ => some .S12E1W
  | .at_S12E0R _ => some .S12E0R
  | .at_S12E0W _ => some .S12E0W
  | .at_S1E2A _ => some .S1E2A
  | .tlbi_IPAS2E1IS _ => none
  | .tlbi_RIPAS2E1IS _ => none
  | .tlbi_IPAS2LE1IS _ => none
  | .tlbi_RIPAS2LE1IS _ => none
  | .tlbi_ALLE2OS _ => none
  | .tlbi_VAE2OS _ => none
  | .tlbi_ALLE1OS _ => none
  | .tlbi_VALE2OS _ => none
  | .tlbi_VMALLS12E1OS _ => none
  | .tlbi_RVAE2IS _ => none
  | .tlbi_RVALE2IS _ => none
  | .tlbi_ALLE2IS _ => none
  | .tlbi_VAE2IS _ => none
  | .tlbi_ALLE1IS _ => none
  | .tlbi_VALE2IS _ => none
  | .tlbi_VMALLS12E1IS _ => none
  | .tlbi_IPAS2E1OS _ => none
  | .tlbi_IPAS2E1 _ => none
  | .tlbi_RIPAS2E1 _ => none
  | .tlbi_RIPAS2E1OS _ => none
  | .tlbi_IPAS2LE1OS _ => none
  | .tlbi_IPAS2LE1 _ => none
  | .tlbi_RIPAS2LE1 _ => none
  | .tlbi_RIPAS2LE1OS _ => none
  | .tlbi_RVAE2OS _ => none
  | .tlbi_RVALE2OS _ => none
  | .tlbi_RVAE2 _ => none
  | .tlbi_RVALE2 _ => none
  | .tlbi_ALLE2 _ => none
  | .tlbi_VAE2 _ => none
  | .tlbi_ALLE1 _ => none
  | .tlbi_VALE2 _ => none
  | .tlbi_VMALLS12E1 _ => none
  | .tlbi_IPAS2E1ISNXS _ => none
  | .tlbi_RIPAS2E1ISNXS _ => none
  | .tlbi_IPAS2LE1ISNXS _ => none
  | .tlbi_RIPAS2LE1ISNXS _ => none
  | .tlbi_ALLE2OSNXS _ => none
  | .tlbi_VAE2OSNXS _ => none
  | .tlbi_ALLE1OSNXS _ => none
  | .tlbi_VALE2OSNXS _ => none
  | .tlbi_VMALLS12E1OSNXS _ => none
  | .tlbi_RVAE2ISNXS _ => none
  | .tlbi_RVALE2ISNXS _ => none
  | .tlbi_ALLE2ISNXS _ => none
  | .tlbi_VAE2ISNXS _ => none
  | .tlbi_ALLE1ISNXS _ => none
  | .tlbi_VALE2ISNXS _ => none
  | .tlbi_VMALLS12E1ISNXS _ => none
  | .tlbi_IPAS2E1OSNXS _ => none
  | .tlbi_IPAS2E1NXS _ => none
  | .tlbi_RIPAS2E1NXS _ => none
  | .tlbi_RIPAS2E1OSNXS _ => none
  | .tlbi_IPAS2LE1OSNXS _ => none
  | .tlbi_IPAS2LE1NXS _ => none
  | .tlbi_RIPAS2LE1NXS _ => none
  | .tlbi_RIPAS2LE1OSNXS _ => none
  | .tlbi_RVAE2OSNXS _ => none
  | .tlbi_RVALE2OSNXS _ => none
  | .tlbi_RVAE2NXS _ => none
  | .tlbi_RVALE2NXS _ => none
  | .tlbi_ALLE2NXS _ => none
  | .tlbi_VAE2NXS _ => none
  | .tlbi_ALLE1NXS _ => none
  | .tlbi_VALE2NXS _ => none
  | .tlbi_VMALLS12E1NXS _ => none
  | .eret => none
  | .eretaa => none
  | .eretab => none
  | .smc _ => none

/-- The TLBI operations and what R79 says each needs: the OS forms FEAT_TLBIOS, the range forms
FEAT_TLBIRANGE, the nXS forms FEAT_XS. -/
def tlbiOf : Instr → Option TlbiNeeds
  | .mrs _ _ => none
  | .msr _ _ => none
  | .mrrs _ _ => none
  | .msrr _ _ => none
  | .at_S1E1R _ => none
  | .at_S1E1W _ => none
  | .at_S1E0R _ => none
  | .at_S1E0W _ => none
  | .at_S1E1RP _ => none
  | .at_S1E1WP _ => none
  | .at_S1E1A _ => none
  | .at_S1E2R _ => none
  | .at_S1E2W _ => none
  | .at_S12E1R _ => none
  | .at_S12E1W _ => none
  | .at_S12E0R _ => none
  | .at_S12E0W _ => none
  | .at_S1E2A _ => none
  | .tlbi_IPAS2E1IS _ => some ⟨false, false, false⟩
  | .tlbi_RIPAS2E1IS _ => some ⟨true, false, false⟩
  | .tlbi_IPAS2LE1IS _ => some ⟨false, false, false⟩
  | .tlbi_RIPAS2LE1IS _ => some ⟨true, false, false⟩
  | .tlbi_ALLE2OS _ => some ⟨false, true, false⟩
  | .tlbi_VAE2OS _ => some ⟨false, true, false⟩
  | .tlbi_ALLE1OS _ => some ⟨false, true, false⟩
  | .tlbi_VALE2OS _ => some ⟨false, true, false⟩
  | .tlbi_VMALLS12E1OS _ => some ⟨false, true, false⟩
  | .tlbi_RVAE2IS _ => some ⟨true, false, false⟩
  | .tlbi_RVALE2IS _ => some ⟨true, false, false⟩
  | .tlbi_ALLE2IS _ => some ⟨false, false, false⟩
  | .tlbi_VAE2IS _ => some ⟨false, false, false⟩
  | .tlbi_ALLE1IS _ => some ⟨false, false, false⟩
  | .tlbi_VALE2IS _ => some ⟨false, false, false⟩
  | .tlbi_VMALLS12E1IS _ => some ⟨false, false, false⟩
  | .tlbi_IPAS2E1OS _ => some ⟨false, true, false⟩
  | .tlbi_IPAS2E1 _ => some ⟨false, false, false⟩
  | .tlbi_RIPAS2E1 _ => some ⟨true, false, false⟩
  | .tlbi_RIPAS2E1OS _ => some ⟨true, true, false⟩
  | .tlbi_IPAS2LE1OS _ => some ⟨false, true, false⟩
  | .tlbi_IPAS2LE1 _ => some ⟨false, false, false⟩
  | .tlbi_RIPAS2LE1 _ => some ⟨true, false, false⟩
  | .tlbi_RIPAS2LE1OS _ => some ⟨true, true, false⟩
  | .tlbi_RVAE2OS _ => some ⟨true, true, false⟩
  | .tlbi_RVALE2OS _ => some ⟨true, true, false⟩
  | .tlbi_RVAE2 _ => some ⟨true, false, false⟩
  | .tlbi_RVALE2 _ => some ⟨true, false, false⟩
  | .tlbi_ALLE2 _ => some ⟨false, false, false⟩
  | .tlbi_VAE2 _ => some ⟨false, false, false⟩
  | .tlbi_ALLE1 _ => some ⟨false, false, false⟩
  | .tlbi_VALE2 _ => some ⟨false, false, false⟩
  | .tlbi_VMALLS12E1 _ => some ⟨false, false, false⟩
  | .tlbi_IPAS2E1ISNXS _ => some ⟨false, false, true⟩
  | .tlbi_RIPAS2E1ISNXS _ => some ⟨true, false, true⟩
  | .tlbi_IPAS2LE1ISNXS _ => some ⟨false, false, true⟩
  | .tlbi_RIPAS2LE1ISNXS _ => some ⟨true, false, true⟩
  | .tlbi_ALLE2OSNXS _ => some ⟨false, true, true⟩
  | .tlbi_VAE2OSNXS _ => some ⟨false, true, true⟩
  | .tlbi_ALLE1OSNXS _ => some ⟨false, true, true⟩
  | .tlbi_VALE2OSNXS _ => some ⟨false, true, true⟩
  | .tlbi_VMALLS12E1OSNXS _ => some ⟨false, true, true⟩
  | .tlbi_RVAE2ISNXS _ => some ⟨true, false, true⟩
  | .tlbi_RVALE2ISNXS _ => some ⟨true, false, true⟩
  | .tlbi_ALLE2ISNXS _ => some ⟨false, false, true⟩
  | .tlbi_VAE2ISNXS _ => some ⟨false, false, true⟩
  | .tlbi_ALLE1ISNXS _ => some ⟨false, false, true⟩
  | .tlbi_VALE2ISNXS _ => some ⟨false, false, true⟩
  | .tlbi_VMALLS12E1ISNXS _ => some ⟨false, false, true⟩
  | .tlbi_IPAS2E1OSNXS _ => some ⟨false, true, true⟩
  | .tlbi_IPAS2E1NXS _ => some ⟨false, false, true⟩
  | .tlbi_RIPAS2E1NXS _ => some ⟨true, false, true⟩
  | .tlbi_RIPAS2E1OSNXS _ => some ⟨true, true, true⟩
  | .tlbi_IPAS2LE1OSNXS _ => some ⟨false, true, true⟩
  | .tlbi_IPAS2LE1NXS _ => some ⟨false, false, true⟩
  | .tlbi_RIPAS2LE1NXS _ => some ⟨true, false, true⟩
  | .tlbi_RIPAS2LE1OSNXS _ => some ⟨true, true, true⟩
  | .tlbi_RVAE2OSNXS _ => some ⟨true, true, true⟩
  | .tlbi_RVALE2OSNXS _ => some ⟨true, true, true⟩
  | .tlbi_RVAE2NXS _ => some ⟨true, false, true⟩
  | .tlbi_RVALE2NXS _ => some ⟨true, false, true⟩
  | .tlbi_ALLE2NXS _ => some ⟨false, false, true⟩
  | .tlbi_VAE2NXS _ => some ⟨false, false, true⟩
  | .tlbi_ALLE1NXS _ => some ⟨false, false, true⟩
  | .tlbi_VALE2NXS _ => some ⟨false, false, true⟩
  | .tlbi_VMALLS12E1NXS _ => some ⟨false, false, true⟩
  | .eret => none
  | .eretaa => none
  | .eretab => none
  | .smc _ => none

end Sys2Proof.Machine
end

