-- ==== Sys2Proof/Certificates/Slice0/Obligations.lean ====
section
/-! DEFINITION. The statements for the provers. A statement about every state that needs the canonical
forms of memory and of the register store takes `State.Inv` as a premise; `StepKeepsInvariant` and
`ResetSatisfiesInvariant` state that invariant. -/

open Sys2Proof Sys2Proof.Machine

/-! ## Reset, invariants, decoding, the step -/

/-- The state after reset satisfies the invariant. -/
def Obligations.ResetSatisfiesInvariant : Prop := State.reset.Inv

/-- Every step that answers a next state keeps the invariant, from every state that has it. -/
def Obligations.StepKeepsInvariant : Prop :=
  ∀ s t : State, s.Inv → step s = .next t → t.Inv

/-- No step changes the implementation, the Security state, the translation tables' answers or the
profiling inputs (00_scope.md section 5 says of the parameters: "A model takes these as a configuration
record"). That no step changes the parameters or what translation answers is the model's own choice
(assumptions 1 and 7), and so is that no entry to EL3 and no return from it changes the Security state
(assumption 50; R33 is silent) and that the profiling inputs never change (assumption 55). -/
def Obligations.StepKeepsSurroundings : Prop :=
  ∀ s t : State, step s = .next t → KeepsSurroundings s t

/-- R70 to R75, R78, R79: decoding the four bytes of an encoded well-formed instruction gives that
instruction and the bytes after it. -/
def Obligations.DecodeOfEncode : Prop :=
  ∀ (i : Instr) (rest : List Byte), wellFormed i = true →
    decode (bytesOfWord (encode i) ++ rest) = .ok (i, rest)

/-- The other direction: a word the decoder accepts is the encoding of the well-formed instruction it
gives, so no two words mean one instruction and no bit is dropped. -/
def Obligations.EncodeOfDecode : Prop :=
  ∀ (w : BitVec 32) (i : Instr), decodeWord w = .ok i → wellFormed i = true ∧ encode i = w

/-- One word of each format, from 30_encoding.md and 95_test_vectors.md. -/
def Obligations.DecodeReadsSpecWords : Prop :=
  decodeWord 0xD53C1101#32 = .ok (.mrs ⟨1#1, 4#3, 1#4, 1#4, 0#3⟩ 1#5) ∧
    decodeWord 0xD51DE245#32 = .ok (.msr ⟨1#1, 5#3, 14#4, 2#4, 2#3⟩ 5#5) ∧
    decodeWord 0xD57C2102#32 = .ok (.mrrs ⟨1#1, 4#3, 2#4, 1#4, 0#3⟩ 2#5) ∧
    decodeWord 0xD55C2102#32 = .ok (.msrr ⟨1#1, 4#3, 2#4, 1#4, 0#3⟩ 2#5) ∧
    decodeWord 0xD5087802#32 = .ok (.at_S1E1R 2#5) ∧
    decodeWord 0xD50C971F#32 = .ok (.tlbi_ALLE2NXS 31#5) ∧
    decodeWord 0xD69F0BFF#32 = .ok .eretaa ∧ decodeWord 0xD4000243#32 = .ok (.smc 0x12#16)

/-- R72, "`Rt` must be even and not 31": a word of MRRS or MSRR with an odd Rt is refused by name,
by the decoder and by a step that fetches it. -/
def Obligations.OddPairIsRefused : Prop :=
  ∀ (s t : State) (w : BitVec 32),
    (w.extractLsb' 20 12 = 0xD57#12 ∨ w.extractLsb' 20 12 = 0xD55#12) → w.getLsbD 0 = true →
      decodeWord w = .error .oddPair ∧
        (s.dbg.halted = false → el0UnderNV1 s = false → instructionOrException s = .word w t →
          step s = .refused .oddPair)

/-- A step runs the instruction that the fetched word decodes to, in the state as the fetch left it:
only the events and the count of draws differ. That the word is the one memory holds now, with no
instruction cache, is the model's choice (assumption 51), and so is that an instruction which is then trapped
counts as executed too (assumption 33). -/
def Obligations.StepRunsDecodedInstruction : Prop :=
  ∀ (s t : State) (w : BitVec 32) (i : Instr),
    s.dbg.halted = false → el0UnderNV1 s = false →
    instructionOrException s = .word w t → decodeWord w = .ok i →
      step s = exec i t ∧ w = wordAt s.mem (fetchAddress s) ∧
        t = { s with events := [.executed s.pstate.el], draw := t.draw }

/-- The same from the bytes in memory: where nothing is pending, the program counter is aligned, no
TLB entry holds an older pair, and the address translates to executable memory, the four bytes found
there are run (R70). At EL3 the address is taken as it is (assumption 8), a fetch reads memory as it is now
(assumption 51), and an instruction that is then trapped counts as executed too (assumption 33). Which regime
translates a fetch at EL0 and EL2 is assumption 8 as well. -/
def Obligations.StepRunsBytesAtPc : Prop :=
  ∀ (s : State) (i : Instr),
    s.dbg.halted = false → el0UnderNV1 s = false → s.dbg.instrEvents = [] →
    s.pc.extractLsb' 0 2 = 0#2 → s.pstate.il = false →
      (∀ g pa p level wb, fetchRegime s = some g → s.tlbHeldNV = [] →
        translate s g (decide (g = .el10) && nv1Active s) s.pc = .ok pa p level wb false →
        executeNever s g p = false → decode (s.mem.readBytes pa 4) = .ok (i, []) →
          step s = exec i
            { s with
              events := [.executed s.pstate.el]
              draw := s.draw + (if p.uxn = none then 1 else 0) }) ∧
        (s.pstate.el = .EL3 → decode (s.mem.readBytes s.pc.toNat 4) = .ok (i, []) →
          step s = exec i { s with events := [.executed s.pstate.el] })

/-- R214 (a): a pending instruction-side exception is taken first, "because the instruction is never
decoded": whatever word stands at the program counter, the step is that exception. A program counter
that is not aligned and a set PSTATE.IL are two of them, and a fetch that faults in translation, lacks
permission or meets an External abort is the Instruction Abort: to the level the base architecture takes
it to, at the address of the instruction. The order among them, their classes, the syndrome of the abort
and the level it is taken to, for an External abort too, are the model's choice (assumption 32, and 46 for
an entry to EL1 or EL3), as are the regime and the permission rules of a fetch (assumption 8) and that the
debug inputs stay across the entry (`AbortsFetch`, assumption 54). -/
def Obligations.InstructionSideExceptionFirst : Prop :=
  ∀ s : State, s.dbg.halted = false → el0UnderNV1 s = false →
    (∀ u, instructionSide { s with events := [] } = some u → step s = .next u) ∧
      (s.pc.extractLsb' 0 2 ≠ 0#2 ∨ s.pstate.il = true →
        ∃ u, instructionSide { s with events := [] } = some u) ∧
      ∀ g, s.Inv → instructionSide { s with events := [] } = none → fetchRegime s = some g →
        s.tlbHeldNV = [] →
          (∀ fsc, translate s g (decide (g = .el10) && nv1Active s) s.pc = .fault fsc →
            ∃ t, step s = .next t ∧ AbortsFetch fsc (baseTarget s) s t) ∧
          (∀ pa p level wb ea,
            translate s g (decide (g = .el10) && nv1Active s) s.pc = .ok pa p level wb ea →
              (executeNever s g p = true →
                ∃ t, step s = .next t ∧ AbortsFetch (0b0011#4 ++ level) (baseTarget s) s t) ∧
              (executeNever s g p = false → ea = true →
                ∃ t, step s = .next t ∧ AbortsFetch 0b010000#6 (baseTarget s) s t))

/-- R51 with decision D19 of 92_eei_decisions.md: "A model refuses (gives no meaning to) a step at EL0
with `nv == 1` and `nv1 == 1`". -/
def Obligations.StepAtEL0UnderNV1IsRefused : Prop :=
  ∀ s : State, s.dbg.halted = false → s.pstate.el = .EL0 → (effNV s).nv = true →
    (effNV s).nv1 = true → step s = .refused .el0UnderNV1

/-! ## Effective values and the classifier -/

/-- R13 to R17, R128, R147: how the stored bits of HCR_EL2 and the identification fields resolve. -/
def Obligations.ResolvedTripleFollowsParameters : Prop :=
  ∀ s : State,
    (s.cfg.haveNV = false ∨ s.cfg.el2Enabled = false → effNV s = ⟨false, false, false, false⟩) ∧
    (s.cfg.e2h0 = 0b1110#4 → (effNV s).nv1 = false ∧ (effNV s).trapOnly = false) ∧
    ((effNV s).nv2 = true → (effNV s).nv = true ∧ s.cfg.haveNV2 = true) ∧
    (s.cfg.nvFrac = 0b0001#4 → s.cfg.haveNV2 = true → (effNV s).nv2 = (effNV s).nv) ∧
    (s.cfg.haveNV = true → s.cfg.el2Enabled = true →
      (s.hcr 42 = true ∨ s.hcr 43 = false ∨ s.cfg.e2h0 = 0b1110#4 →
        (effNV s).nv = s.hcr 42 ∧
          (effNV s).nv1 = (s.hcr 43 && !decide (s.cfg.e2h0 = 0b1110#4)) ∧
          (effNV s).trapOnly = false) ∧
      (s.cfg.nvFrac ≠ 0b0001#4 → s.cfg.haveNV2 = true → (effNV s).nv = true →
        (effNV s).nv2 = s.hcr 45) ∧
      (s.hcr 42 = false → s.hcr 43 = true → s.cfg.e2h0 ≠ 0b1110#4 →
        (s.cfg.cuNV0NV1 = .asNV11 →
          (effNV s).nv = true ∧ (effNV s).nv1 = true ∧ (effNV s).trapOnly = false) ∧
        (s.cfg.cuNV0NV1 = .asNV00 → effNV s = ⟨false, false, false, false⟩) ∧
        (s.cfg.cuNV0NV1 = .trapOnly → effNV s = ⟨false, false, false, true⟩)))

/-- R171, the outcome table: an implemented register accessed by MRS or MSR from EL1 with EL2
enabled, the two guards of R101 false and no other trap due. -/
def Obligations.ClassifierFollowsOutcomeTable : Prop :=
  ∀ (s : State) (r : RegName) (dir : Dir),
    s.pstate.el = .EL1 → s.cfg.el2Enabled = true → implemented s.cfg r = true →
    undefAtEL2 s r dir = false → el3TrapHigher s r dir = false →
    otherTrap s (.reg r dir) = none →
      ((effNV s).nv = false →
        classifyRegAccess s r dir false =
          if (effNV s).trapOnly = true ∧ nv1Set r = true then .trapEL2 0x18#6 else .unchanged) ∧
      ((effNV s).nv = true → r = ⟨.CurrentEL, .none, 0⟩ → dir = .read →
        classifyRegAccess s r dir false = .readAs 0x8#64) ∧
      ((effNV s).nv = true → (effNV s).nv2 = false → (r = ⟨.CurrentEL, .none, 0⟩ → dir = .write) →
        classifyRegAccess s r dir false =
          if nvTrapSet r = true ∨ ((effNV s).nv1 = true ∧ nv1Set r = true) then .trapEL2 0x18#6
          else .unchanged) ∧
      ((effNV s).nv2 = true → ∀ r', redirectTarget r = some r' →
        classifyRegAccess s r dir false = .redirect r') ∧
      ((effNV s).nv2 = true → ∀ off, vncrOffset s.cfg.row298 r (effNV s).nv1 = some off →
        classifyRegAccess s r dir false = .transform off) ∧
      ((effNV s).nv2 = true → redirectTarget r = none →
        vncrOffset s.cfg.row298 r (effNV s).nv1 = none →
        (r = ⟨.CurrentEL, .none, 0⟩ → dir = .write) →
          classifyRegAccess s r dir false =
            if nvTrapSet r = true then .trapEL2 0x18#6 else .unchanged)

/-- The guards of R101 and R165: an access to a register of `NVTrapSet` that is UNDEFINED at EL2 or
trapped to EL3 with higher priority is neither trapped to EL2 nor transformed, and an access to
another row of the table that another trap, one to EL3 among them, claims is not transformed (R163; that a
trap of EL3TrapHigher is one of R163's is assumption 48). -/
def Obligations.GuardedAccessIsUnchanged : Prop :=
  ∀ (s : State) (r : RegName) (dir : Dir),
    s.pstate.el = .EL1 → s.cfg.el2Enabled = true → implemented s.cfg r = true →
    ((effNV s).nv2 = true → redirectTarget r = none) →
      (nvTrapSet r = true → undefAtEL2 s r dir = true ∨ el3TrapHigher s r dir = true →
        classifyRegAccess s r dir false = .unchanged) ∧
      ((effNV s).nv2 = true → nvTrapSet r = false → nv1Set r = false →
        r ≠ ⟨.CurrentEL, .none, 0⟩ →
        (otherTrap s (.reg r dir)).isSome = true ∨ el3TrapHigher s r dir = true →
          classifyRegAccess s r dir false = .unchanged)

/-- R131, R2, 92 D21: every trap, redirection and transformation is conditioned on EL1, on FEAT_NV, without
which "every outcome is `Unchanged`", and on EL2 being enabled. -/
def Obligations.RulesFireOnlyAtEL1 : Prop :=
  ∀ (s : State) (r : RegName) (dir : Dir) (b : Bool) (op : AtOp),
    s.pstate.el ≠ .EL1 ∨ s.cfg.haveNV = false ∨ s.cfg.el2Enabled = false →
      classifyRegAccess s r dir b = .unchanged ∧ atTrapped s op = false ∧
        tlbiTrapped s b = false ∧ eretTrapped s = false ∧ smcTrapped s = false ∧
        nv1Active s = false

/-! ## Traps to EL2 -/

/-- R101 to R109, R200, R201, R213: MRS or MSR at EL1 under NV of a register of one of the five classes
(named *_EL2 but the eight exempt ones, *_EL12, *_EL02, a banked SPSR, SP_EL1), when FEAT_NV2 neither
redirects nor transforms it. -/
def Obligations.NvTrapsRegisterAccess : Prop :=
  ∀ (s : State) (i : Instr) (e : SysEnc) (rt : BitVec 5) (dir : Dir) (r : RegName),
    (i = .mrs e rt ∧ dir = .read) ∨ (i = .msr e rt ∧ dir = .write) → sysRegName s.cfg e = r →
    (r.sfx = .EL2 ∧
        r ∉ [(⟨.SP, .EL2, 0⟩ : RegName), ⟨.MECIDR, .EL2, 0⟩, ⟨.MECID_A0, .EL2, 0⟩,
          ⟨.MECID_A1, .EL2, 0⟩, ⟨.MECID_P0, .EL2, 0⟩, ⟨.MECID_P1, .EL2, 0⟩,
          ⟨.VMECID_A, .EL2, 0⟩, ⟨.VMECID_P, .EL2, 0⟩]) ∨
      r.sfx = .EL12 ∨ r.sfx = .EL02 ∨
      r ∈ [(⟨.SPSR_irq, .none, 0⟩ : RegName), ⟨.SPSR_abt, .none, 0⟩, ⟨.SPSR_und, .none, 0⟩,
        ⟨.SPSR_fiq, .none, 0⟩, ⟨.SP, .EL1, 0⟩] →
    s.Inv → s.pstate.el = .EL1 → s.cfg.el2Enabled = true → (effNV s).nv = true →
    ((effNV s).nv2 = false ∨
      (redirectTarget r = none ∧ vncrOffset s.cfg.row298 r (effNV s).nv1 = none)) →
    implemented s.cfg r = true → undefAtEL2 s r dir = false → el3TrapHigher s r dir = false →
      ∃ t, exec i s = .next t ∧ TrapsToEL2 0x18#6 (issOfWord (encode i)) s t

/-- R124, R129: VBAR_EL1, ELR_EL1, SPSR_EL1 and, if implemented, SCXTNUM_EL1 trap under `{1, 1}` and
under the choice `TrapOnly`, reads and writes; with FEAT_NV2 active the access is transformed
instead (R160, R165). -/
def Obligations.Nv1TrapsItsFourRegisters : Prop :=
  ∀ (s : State) (i : Instr) (e : SysEnc) (rt : BitVec 5) (dir : Dir),
    (i = .mrs e rt ∧ dir = .read) ∨ (i = .msr e rt ∧ dir = .write) →
    s.Inv → s.pstate.el = .EL1 → s.cfg.el2Enabled = true →
    sysRegName s.cfg e ∈
      [(⟨.VBAR, .EL1, 0⟩ : RegName), ⟨.ELR, .EL1, 0⟩, ⟨.SPSR, .EL1, 0⟩, ⟨.SCXTNUM, .EL1, 0⟩] →
    implemented s.cfg (sysRegName s.cfg e) = true →
    ((effNV s).nv = true ∧ (effNV s).nv1 = true) ∨ (effNV s).trapOnly = true →
      ((effNV s).nv2 = false →
        ∃ t, exec i s = .next t ∧ TrapsToEL2 0x18#6 (issOfWord (encode i)) s t) ∧
      ((effNV s).nv2 = true →
        ∃ off, vncrOffset s.cfg.row298 (sysRegName s.cfg e) true = some off ∧
          TransformsTo s i off 8 dir)

/-- R110 to R117 and R135 to R142: at EL1 an AT operation accessible only from EL2 traps under NV,
one executable at EL1 traps under HCR_EL2.AT, whatever NV, NV1 and NV2 are; PAR_EL1 is not
written (92 D10). -/
def Obligations.AddressTranslationTraps : Prop :=
  ∀ (s : State) (i : Instr) (op : AtOp), atOf i = some op → s.Inv →
    s.pstate.el = .EL1 → s.cfg.el2Enabled = true →
    (op ∈ [AtOp.S1E2A, .S1E1A] → s.cfg.haveATS1A = true) →
    ((effNV s).nv = true ∧
        op ∈ [AtOp.S1E2R, .S1E2W, .S12E1R, .S12E1W, .S12E0R, .S12E0W, .S1E2A]) ∨
      (s.cfg.haveNV = true ∧ s.hcr 44 = true ∧
        op ∈ [AtOp.S1E0R, .S1E0W, .S1E1R, .S1E1W, .S1E1RP, .S1E1WP, .S1E1A]) →
      ∃ t, exec i s = .next t ∧ TrapsToEL2 0x18#6 (issOfWord (encode i)) s t

/-- R118: a TLBI operation accessible only from EL2, whose features are implemented (R79), traps at
EL1 under NV and invalidates nothing. -/
def Obligations.TlbMaintenanceTraps : Prop :=
  ∀ (s : State) (i : Instr) (n : TlbiNeeds), tlbiOf i = some n → n.met s.cfg → s.Inv →
    s.pstate.el = .EL1 → s.cfg.el2Enabled = true → (effNV s).nv = true →
      ∃ t, exec i s = .next t ∧ TrapsToEL2 0x18#6 (issOfWord (encode i)) s t

/-- R120 to R122, R203: ERET, ERETAA and ERETAB trap at EL1 under NV; the return registers are not
consumed. -/
def Obligations.ExceptionReturnTraps : Prop :=
  ∀ s : State, s.Inv → s.pstate.el = .EL1 → s.cfg.el2Enabled = true → (effNV s).nv = true →
    (∃ t, exec .eret s = .next t ∧ TrapsToEL2 0x1A#6 0#25 s t) ∧
      (s.cfg.havePAuth = true →
        (∃ t, exec .eretaa s = .next t ∧ TrapsToEL2 0x1A#6 0b10#25 s t) ∧
          ∃ t, exec .eretab s = .next t ∧ TrapsToEL2 0x1A#6 0b11#25 s t)

/-- R119, R203: SMC at EL1 under NV without EL3 while HCR_EL2.TSC is 1; ISS[15:0] is the immediate.
The second clause is the model's choice: with EL3, TSC traps independently of NV (assumption 22: R119 marks
that as general knowledge and vector B3.27 leaves it to the base architecture), after any other trap
(assumption 14). In both, the Effective value of TSC is the stored bit (assumption 40). -/
def Obligations.SecureMonitorCallTraps : Prop :=
  ∀ (s : State) (imm : BitVec 16), s.Inv → s.pstate.el = .EL1 → s.cfg.el2Enabled = true →
    s.hcr 19 = true →
      (s.cfg.haveEL3 = false → (effNV s).nv = true →
        ∃ t, exec (.smc imm) s = .next t ∧ TrapsToEL2 0x17#6 (imm.setWidth 25) s t) ∧
      (s.cfg.haveEL3 = true → otherTrap s .smc = none →
        ∃ t, exec (.smc imm) s = .next t ∧ TrapsToEL2 0x17#6 (imm.setWidth 25) s t)

/-- R101, R165: the trap to EL3 of higher priority is taken instead of the NV trap and instead of the
transformation of a register that NV traps; and instead of the transformation of a register that neither NV
nor NV1 traps (R163, where it is one of the "other traps"; assumption 48), before UNDEFINED (the order is
assumption 14). The spec says only that the trap is taken: that ESR_EL3[24:0] is the ISS of the access, as
its class, which is not stated here, is the model's choice (assumption 16), and that ELR_EL3 receives the pc
and only ESR_EL3, ELR_EL3 and SPSR_EL3 change is assumption 46. -/
def Obligations.HigherPriorityTrapGoesToEL3 : Prop :=
  ∀ (s : State) (i : Instr) (e : SysEnc) (rt : BitVec 5) (dir : Dir),
    (i = .mrs e rt ∧ dir = .read) ∨ (i = .msr e rt ∧ dir = .write) →
    s.Inv → s.pstate.el = .EL1 → s.cfg.el2Enabled = true →
    implemented s.cfg (sysRegName s.cfg e) = true →
    ((effNV s).nv = true ∧ nvTrapSet (sysRegName s.cfg e) = true ∧
        ((effNV s).nv2 = true → redirectTarget (sysRegName s.cfg e) = none) ∧
        undefAtEL2 s (sysRegName s.cfg e) dir = false) ∨
      ((effNV s).nv2 = true ∧ nvTrapSet (sysRegName s.cfg e) = false ∧
        nv1Set (sysRegName s.cfg e) = false ∧
        vncrOffset s.cfg.row298 (sysRegName s.cfg e) (effNV s).nv1 ≠ none) →
    el3TrapHigher s (sysRegName s.cfg e) dir = true →
      ∃ t, exec i s = .next t ∧ t.pstate.el = .EL3 ∧
        (t.reg ⟨.ESR, .EL3, 0⟩).extractLsb' 0 25 = issOfWord (encode i) ∧
        t.reg ⟨.ELR, .EL3, 0⟩ = s.pc ∧
        KeepsRegsBut [⟨.ESR, .EL3, 0⟩, ⟨.ELR, .EL3, 0⟩, ⟨.SPSR, .EL3, 0⟩] s t ∧
        KeepsGprsBut [] s t ∧ KeepsMemory s t

/-- R163: a trap of the base architecture that is due for a register neither NV nor NV1 traps "keeps
its place": it is taken, and the access is not transformed. The form of such a trap, with its class and
syndrome, is assumption 15. -/
def Obligations.OtherTrapIsTakenInsteadOfTransformation : Prop :=
  ∀ (s : State) (i : Instr) (e : SysEnc) (rt : BitVec 5) (dir : Dir) (o : OtherTrap)
    (off : BitVec 12),
    (i = .mrs e rt ∧ dir = .read) ∨ (i = .msr e rt ∧ dir = .write) →
    s.Inv → s.pstate.el = .EL1 → s.cfg.el2Enabled = true → (effNV s).nv2 = true →
    nvTrapSet (sysRegName s.cfg e) = false → nv1Set (sysRegName s.cfg e) = false →
    vncrOffset s.cfg.row298 (sysRegName s.cfg e) (effNV s).nv1 = some off →
    implemented s.cfg (sysRegName s.cfg e) = true →
    el3TrapHigher s (sysRegName s.cfg e) dir = false →
    undefinedHere s (sysRegName s.cfg e) dir = false →
    otherTrap s (.reg (sysRegName s.cfg e) dir) = some o → o.target = .EL2 →
      ∃ t, exec i s = .next t ∧ TrapsToEL2 o.ec (o.iss.getD (issOfWord (encode i))) s t

/-! ## Exceptions to EL1 and to EL3, UNDEFINED -/

/-- R125 and R204: an exception taken from EL1 to EL1 saves 0b10 in SPSR_EL1.M[3:2] under
`{NV, NV1} = {1, 0}` or `{NV, NV2} = {1, 1}` and 0b01 otherwise; only that field is changed, and the
PE stays at EL1. Exceptions from EL0 to EL1 and from EL1 to EL2 save the level they come from. -/
def Obligations.SavedModeFieldUnderNV : Prop :=
  ∀ (s : State) (x : Exc), s.Inv →
    (s.pstate.el = .EL1 → excTarget x.target .EL1 = .EL1 →
      ((takeException x s).reg ⟨.SPSR, .EL1, 0⟩).extractLsb' 2 2 =
          (if ((effNV s).nv = true ∧ (effNV s).nv1 = false) ∨
              ((effNV s).nv = true ∧ (effNV s).nv2 = true) then 0b10#2 else 0b01#2) ∧
        (∀ k : Nat, k ≠ 2 → k ≠ 3 →
          ((takeException x s).reg ⟨.SPSR, .EL1, 0⟩).getLsbD k = s.pstate.image.getLsbD k) ∧
        (takeException x s).pstate.el = .EL1) ∧
    (s.pstate.el = .EL0 → excTarget x.target .EL0 = .EL1 →
      ((takeException x s).reg ⟨.SPSR, .EL1, 0⟩).extractLsb' 2 2 = 0b00#2) ∧
    (s.pstate.el = .EL1 → x.target = .EL2 →
      ((takeException x s).reg ⟨.SPSR, .EL2, 0⟩).extractLsb' 2 2 = 0b01#2)

/-- R100, R161, 92 D27: at EL1 without HCR_EL2.TGE, an access that this spec leaves to the base
architecture and that EL1 may not make, or whose register is not implemented, is the Undefined
Instruction exception to EL1: no register is read or written. Class 0 and the level are assumption 13, that
it comes before another trap that is due is assumption 14, that a write of a read-only register is one of
them is assumption 35, the entry to EL1 is assumption 46, and that the debug inputs stay across the entry
(`UndefinedAtEL1`) is assumption 54. -/
def Obligations.RegisterAccessUndefinedAtEL1 : Prop :=
  ∀ (s : State) (i : Instr) (e : SysEnc) (rt : BitVec 5) (dir : Dir),
    (i = .mrs e rt ∧ dir = .read) ∨ (i = .msr e rt ∧ dir = .write) →
    s.Inv → s.pstate.el = .EL1 → effTGE s = false →
    (implemented s.cfg (sysRegName s.cfg e) = false ∨
      (classifyRegAccess s (sysRegName s.cfg e) dir false = .unchanged ∧
        el3TrapHigher s (sysRegName s.cfg e) dir = false ∧
        (1 < (minEL (sysRegName s.cfg e)).num ∨
          (dir = .write ∧ readOnlyReg s.cfg (sysRegName s.cfg e) = true)))) →
      ∃ t, exec i s = .next t ∧ UndefinedAtEL1 s t

/-- R100, R110, R117 to R119, R121, R122, R140 to R142, R166: at EL1 without HCR_EL2.TGE, the operations
accessible only from EL2 while NV is 0, the operations whose feature is absent (S1E1RP and S1E1WP where
HCR_EL2.AT does not trap them, assumption 43), SMC without EL3 that is not trapped, and MRRS or MSRR of a
register that is not 128-bit, are UNDEFINED. Class 0 and the level are assumption 13, that it comes before
another trap that is due is assumption 14, that SMC without EL3 is one of them is assumption 22, that MRRS
and MSRR of another register are is assumption 26, the entry to EL1 is assumption 46, and that the debug
inputs stay across the entry (`UndefinedAtEL1`) is assumption 54. -/
def Obligations.OperationUndefinedAtEL1 : Prop :=
  ∀ (s : State) (i : Instr), s.Inv → s.pstate.el = .EL1 → effTGE s = false →
    (((effNV s).nv = false ∧
        (∃ op, atOf i = some op ∧
          op ∈ [AtOp.S1E2R, .S1E2W, .S12E1R, .S12E1W, .S12E0R, .S12E0W, .S1E2A])) ∨
      ((effNV s).nv = false ∧ ∃ n, tlbiOf i = some n) ∨
      (∃ op, atOf i = some op ∧ op ∈ [AtOp.S1E2A, .S1E1A] ∧ s.cfg.haveATS1A = false) ∨
      (∃ op, atOf i = some op ∧ op ∈ [AtOp.S1E1RP, .S1E1WP] ∧ s.cfg.havePAN2 = false ∧
        effAT s = false) ∨
      (∃ n, tlbiOf i = some n ∧ ¬n.met s.cfg) ∨
      ((∃ imm, i = .smc imm) ∧ s.cfg.haveEL3 = false ∧
        ((effNV s).nv = false ∨ effTSC s = false)) ∨
      (i ∈ [Instr.eretaa, .eretab] ∧ s.cfg.havePAuth = false) ∨
      (∃ e rt, i ∈ [Instr.mrrs e rt, .msrr e rt] ∧
        isReg128 s.cfg (sysRegName s.cfg e) = false)) →
      ∃ t, exec i s = .next t ∧ UndefinedAtEL1 s t

/-- SMC with EL3 that nothing traps is the call to EL3 (assumption 22): class 0x17 with the
immediate, the next instruction as return address. The registers that the entry writes are assumption 46,
the SPSR image is assumption 19, the Effective value of TSC is assumption 40, a return address that wraps is
assumption 45, and that the Security state stays is assumption 50. -/
def Obligations.SecureMonitorCallEntersEL3 : Prop :=
  ∀ (s : State) (imm : BitVec 16), s.Inv → s.pstate.el ≠ .EL0 → s.cfg.haveEL3 = true →
    otherTrap s .smc = none → (s.pstate.el = .EL1 → effTSC s = false) →
      ∃ t, exec (.smc imm) s = .next t ∧ t.pstate.el = .EL3 ∧
        t.reg ⟨.ESR, .EL3, 0⟩ = (0x17#64 <<< 26 ||| 1#64 <<< 25 ||| imm.setWidth 64) ∧
        t.reg ⟨.ELR, .EL3, 0⟩ = s.pc + 4#64 ∧ t.reg ⟨.SPSR, .EL3, 0⟩ = s.pstate.image ∧
        KeepsRegsBut [⟨.ESR, .EL3, 0⟩, ⟨.ELR, .EL3, 0⟩, ⟨.SPSR, .EL3, 0⟩] s t ∧
        KeepsGprsBut [] s t ∧ KeepsMemory s t ∧ t.tlbHeldNV = s.tlbHeldNV ∧
        KeepsSurroundings s t

/-! ## Exception return -/

/-- R131, R216: an exception return that nothing traps restores process state from SPSR of the
current level and, for ERET, resumes at ELR of that level; the address ERETAA and ERETAB authenticate to
is open (assumption 21). An image that is not legal keeps the level and the stack pointer, sets PSTATE.IL
and restores the other fields. Nothing else changes. The layout of SPSR, which images are legal and what
an illegal one does are the model's choice (assumptions 19 and 20), and so are that the Security state stays
on a return from EL3 (assumption 50) and that the debug inputs stay when the return changes PSTATE.D
(assumption 54). -/
def Obligations.ExceptionReturnRestores : Prop :=
  ∀ (s : State) (i : Instr) (v : Word), i ∈ [Instr.eret, .eretaa, .eretab] →
    (i ≠ .eret → s.cfg.havePAuth = true) → s.pstate.el ≠ .EL0 → eretTrapped s = false →
    otherTrap s .eret = none → v = s.reg ⟨.SPSR, elSuffix s.pstate.el, 0⟩ →
      ∃ t, exec i s = .next t ∧
        (LegalImage s v → RestoresPState v t.pstate) ∧
        (¬LegalImage s v →
          t.pstate.el = s.pstate.el ∧ t.pstate.sp = s.pstate.sp ∧ t.pstate.il = true ∧
            RestoresFields v t.pstate) ∧
        (i = .eret → t.pc = s.reg ⟨.ELR, elSuffix s.pstate.el, 0⟩) ∧
        KeepsRegsBut [] s t ∧ KeepsGprsBut [] s t ∧ KeepsMemory s t ∧
        t.tlbHeldNV = s.tlbHeldNV ∧ t.dbg = s.dbg ∧ t.events = s.events ∧
        KeepsSurroundings s t

/-- A trap to EL2 (R213) loses nothing. An ERET that the handler executes right after the entry resumes the
trapped instruction with all of its process state, registers and memory. Half of it is the model's choice:
R216 says that the source does not describe exception return, so that ERET restores process state from
SPSR_EL2 and the program counter from ELR_EL2, and that the saved image is a legal one, is assumption 20,
and the layout of the image is assumption 19. -/
def Obligations.ReturnAfterTrapResumes : Prop :=
  ∀ (s : State) (ec : BitVec 6) (iss : BitVec 25), s.Inv → s.pstate.el = .EL1 →
    s.cfg.el2Enabled = true → (∀ o ∈ s.cfg.otherTraps, o.key ≠ .eret) →
      ∃ u, exec .eret (trapToEL2 ec iss s) = .next u ∧ u.pc = s.pc ∧ u.pstate = s.pstate ∧
        u.gpr = s.gpr ∧ u.mem = s.mem ∧ u.tlbHeldNV = s.tlbHeldNV ∧
        KeepsRegsBut [⟨.ESR, .EL2, 0⟩, ⟨.ELR, .EL2, 0⟩, ⟨.SPSR, .EL2, 0⟩] s u

/-! ## Register reads and writes -/

/-- R13, R26, R30, R31, R108: MRS of a register the spec leaves to the base architecture and that is
accessible returns its storage, at every Exception level and for every NV, NV1 and NV2; of
ID_AA64MMFR4_EL1 the identification parameters (assumption 35), of PAN and UAO the stored bit of process
state in bit 22 or 23. Four clauses are the model's choice: the read of UAO (assumption 12), an `_EL1` name at EL2 while HCR_EL2.E2H is 1 is
its own storage (assumption 13), bits that are RES0 read back as written (assumption 49), and of a 128-bit
register the value is bits [63:0] (assumption 26). -/
def Obligations.MrsReadsStorage : Prop :=
  ∀ (s : State) (e : SysEnc) (rt : BitVec 5) (r : RegName) (v : Word), sysRegName s.cfg e = r →
    classifyRegAccess s r .read false = .unchanged → Accessible s r .read →
    (regView r = .storage ∧ v = s.reg r) ∨
      (r = ⟨.ID_AA64MMFR4, .EL1, 0⟩ ∧ v = s.cfg.idAA64MMFR4) ∨
      (r = ⟨.PAN, .none, 0⟩ ∧ v = if s.pstate.pan = true then 1#64 <<< 22 else 0#64) ∨
      (r = ⟨.UAO, .none, 0⟩ ∧ v = if s.pstate.uao = true then 1#64 <<< 23 else 0#64) →
      ∃ t, exec (.mrs e rt) s = .next t ∧ Loads rt v s t ∧ KeepsRegsBut [] s t ∧
        KeepsMemory s t ∧ Continues s t ∧ t.events = s.events

/-- R30, R31, R109: MSR of such a register writes Xt to its storage, zero for register 31. That an `_EL1`
name at EL2 while HCR_EL2.E2H is 1 is its own storage is the model's choice (assumption 13), as is that bits
that are RES0 are stored as written (assumption 49), and that a write of MDSCR_EL1 or MDCR_EL2 leaves the
debug inputs as they are (assumption 54). -/
def Obligations.MsrWritesStorage : Prop :=
  ∀ (s : State) (e : SysEnc) (rt : BitVec 5), s.Inv →
    classifyRegAccess s (sysRegName s.cfg e) .write false = .unchanged →
    Accessible s (sysRegName s.cfg e) .write → regView (sysRegName s.cfg e) = .storage →
      ∃ t, exec (.msr e rt) s = .next t ∧
        t.reg (sysRegName s.cfg e) = (if rt = 31#5 then 0#64 else s.x rt) ∧
        KeepsRegsBut [storageName (sysRegName s.cfg e)] s t ∧ KeepsGprsBut [] s t ∧
        KeepsMemory s t ∧ Continues s t ∧ t.events = s.events

/-- R30, R31, R62: MRRS and MSRR of an accessible 128-bit register move all 128 bits, Xt bits 63..0
and Xt+1 bits 127..64. That the pair X30, X31 has the zero register as its upper half is the model's choice
(assumption 26), as is that an `_EL1` name at EL2 while HCR_EL2.E2H is 1 is its own storage (assumption
13). -/
def Obligations.PairAccessMovesBothHalves : Prop :=
  ∀ (s : State) (e : SysEnc) (rt : BitVec 5), s.Inv → pairRegisterOk rt = true →
    isReg128 s.cfg (sysRegName s.cfg e) = true →
      (classifyRegAccess s (sysRegName s.cfg e) .read true = .unchanged →
        Accessible s (sysRegName s.cfg e) .read →
          ∃ t, exec (.mrrs e rt) s = .next t ∧
            t.x rt = (s.reg128 (sysRegName s.cfg e)).extractLsb' 0 64 ∧
            t.x (rt + 1#5) =
              (if rt = 30#5 then 0#64
               else (s.reg128 (sysRegName s.cfg e)).extractLsb' 64 64) ∧
            KeepsGprsBut [rt, rt + 1#5] s t ∧ KeepsRegsBut [] s t ∧ KeepsMemory s t ∧
            Continues s t ∧ t.events = s.events) ∧
      (classifyRegAccess s (sysRegName s.cfg e) .write true = .unchanged →
        Accessible s (sysRegName s.cfg e) .write →
          ∃ t, exec (.msrr e rt) s = .next t ∧
            t.reg128 (sysRegName s.cfg e) =
              (if rt = 30#5 then 0#64 else s.x (rt + 1#5)) ++ s.x rt ∧
            KeepsRegsBut [storageName (sysRegName s.cfg e)] s t ∧ KeepsGprsBut [] s t ∧
            KeepsMemory s t ∧ Continues s t ∧ t.events = s.events)

/-- R24, R123: a read of CurrentEL returns the level in bits [3:2] and zeros, but 0x8 at EL1 under NV,
for every NV1 and NV2; the level itself does not change. -/
def Obligations.CurrentELReportsEL2UnderNV : Prop :=
  ∀ (s : State) (e : SysEnc) (rt : BitVec 5),
    sysRegName s.cfg e = ⟨.CurrentEL, .none, 0⟩ →
    implemented s.cfg ⟨.CurrentEL, .none, 0⟩ = true →
      (s.pstate.el = .EL1 → s.cfg.el2Enabled = true → (effNV s).nv = true →
        ∃ t, exec (.mrs e rt) s = .next t ∧ Loads rt 0x8#64 s t ∧ KeepsRegsBut [] s t ∧
          KeepsMemory s t ∧ Continues s t ∧ t.events = s.events) ∧
      ((s.pstate.el = .EL1 → (effNV s).nv = false) →
        Accessible s ⟨.CurrentEL, .none, 0⟩ .read →
          ∃ t, exec (.mrs e rt) s = .next t ∧
            Loads rt (BitVec.ofNat 64 (4 * s.pstate.el.num)) s t ∧ KeepsRegsBut [] s t ∧
            KeepsMemory s t ∧ Continues s t ∧ t.events = s.events)

/-- R26: MSR of PAN and UAO writes bit 22 or 23 of Xt to the field of process state and nothing
else; that the debug inputs stay is the model's choice (assumption 54). -/
def Obligations.MsrWritesProcessStateBit : Prop :=
  ∀ (s : State) (e : SysEnc) (rt : BitVec 5) (r : RegName), sysRegName s.cfg e = r →
    r = ⟨.PAN, .none, 0⟩ ∨ r = ⟨.UAO, .none, 0⟩ →
    classifyRegAccess s r .write false = .unchanged → Accessible s r .write →
      ∃ t, exec (.msr e rt) s = .next t ∧
        t.pstate =
          (if r = ⟨.PAN, .none, 0⟩ then { s.pstate with pan := (s.x rt).getLsbD 22 }
           else { s.pstate with uao := (s.x rt).getLsbD 23 }) ∧
        t.pc = s.pc + 4#64 ∧ KeepsRegsBut [] s t ∧ KeepsGprsBut [] s t ∧ KeepsMemory s t ∧
        t.tlbHeldNV = s.tlbHeldNV ∧ t.dbg = s.dbg ∧ KeepsSurroundings s t

/-- R10, R128, U5: MSR of HCR_EL2 stores the word, and MRS returns the stored bits, bit 43 open where
NV1 is RES0. That any other bit that an implementation has as RES0 reads back as written is the model's
choice (assumption 49), and so is that the debug inputs stay (assumption 54). -/
def Obligations.HcrReadsBackStoredBits : Prop :=
  ∀ (s : State) (e : SysEnc) (rt : BitVec 5), s.Inv →
    sysRegName s.cfg e = ⟨.HCR, .EL2, 0⟩ →
    (classifyRegAccess s ⟨.HCR, .EL2, 0⟩ .write false = .unchanged →
      Accessible s ⟨.HCR, .EL2, 0⟩ .write →
        ∃ t, exec (.msr e rt) s = .next t ∧ t.reg ⟨.HCR, .EL2, 0⟩ = s.x rt ∧
          KeepsRegsBut [⟨.HCR, .EL2, 0⟩] s t ∧ KeepsGprsBut [] s t ∧ KeepsMemory s t ∧
          t.pc = s.pc + 4#64 ∧ t.pstate = s.pstate ∧ t.dbg = s.dbg ∧
          KeepsSurroundings s t) ∧
    (classifyRegAccess s ⟨.HCR, .EL2, 0⟩ .read false = .unchanged →
      Accessible s ⟨.HCR, .EL2, 0⟩ .read →
        ∃ t, exec (.mrs e rt) s = .next t ∧ KeepsGprsBut [rt] s t ∧ KeepsRegsBut [] s t ∧
          KeepsMemory s t ∧ Continues s t ∧
          (rt ≠ 31#5 → ∀ k, (k ≠ 43 ∨ s.cfg.e2h0 ≠ 0b1110#4) →
            (t.x rt).getLsbD k = (s.reg ⟨.HCR, .EL2, 0⟩).getLsbD k))

/-- R35, R44, R266: an MSR of HCR_EL2 that changes the resolved pair leaves the old pair in
`TLBHeldNV` with all that was there (assumption 9); a translation of the EL1&0 regime reads
descriptors by the current pair or by one that is held, by the current one alone when none is, by none
without FEAT_NV or EL2 (R2, 92 D21), and no other regime is affected. -/
def Obligations.HeldPairsDecideDescriptorReading : Prop :=
  ∀ (s : State) (e : SysEnc) (rt : BitVec 5),
    (sysRegName s.cfg e = ⟨.HCR, .EL2, 0⟩ →
      classifyRegAccess s ⟨.HCR, .EL2, 0⟩ .write false = .unchanged →
      Accessible s ⟨.HCR, .EL2, 0⟩ .write →
        ∃ t, exec (.msr e rt) s = .next t ∧ (∀ p ∈ s.tlbHeldNV, p ∈ t.tlbHeldNV) ∧
          ((effNV t).nv ≠ (effNV s).nv ∨ (effNV t).nv1 ≠ (effNV s).nv1 →
            ((effNV s).nv, (effNV s).nv1) ∈ t.tlbHeldNV)) ∧
    ((regimeReading s .el10).1 = nv1Active s ∨
      ∃ p ∈ s.tlbHeldNV, (regimeReading s .el10).1 = (p.1 && p.2)) ∧
    (s.tlbHeldNV = [] → regimeReading s .el10 = (nv1Active s, s)) ∧
    (s.cfg.haveNV = false ∨ s.cfg.el2Enabled = false → regimeReading s .el10 = (false, s)) ∧
    (regimeReading s .el2).1 = false ∧ (regimeReading s .el20).1 = false

/-- R30: an `_EL12` or `_EL02` name is an alias of the `_EL1` or `_EL0` register. -/
def Obligations.AliasSharesStorage : Prop :=
  ∀ (s : State) (b : RegBase) (n : BitVec 16) (v : Word), s.Inv → b ≠ .other →
    (s.setReg ⟨b, .EL12, n⟩ v).reg ⟨b, .EL1, n⟩ = v ∧
      (s.setReg ⟨b, .EL1, n⟩ v).reg ⟨b, .EL12, n⟩ = v ∧
      (s.setReg ⟨b, .EL02, n⟩ v).reg ⟨b, .EL0, n⟩ = v ∧
      (s.setReg ⟨b, .EL0, n⟩ v).reg ⟨b, .EL02, n⟩ = v

/-- R149 to R153: from EL1 under `{NV, NV2} = {1, 1}`, accesses to SPSR_EL2, ELR_EL2, ESR_EL2, FAR_EL2
and TFSR_EL2 reach the EL1 register, with the default names of R77; no exception is taken, whatever
NV1 is. An access to one that is not implemented is unallocated. Where the EL1 register is a 128-bit one, the
value read is its bits [63:0] (assumption 26). -/
def Obligations.FiveRegistersAreRedirected : Prop :=
  ∀ (s : State) (e : SysEnc) (rt : BitVec 5) (r' : RegName),
    (e, r') ∈
      [((⟨1#1, 4#3, 4#4, 0#4, 0#3⟩ : SysEnc), (⟨.SPSR, .EL1, 0⟩ : RegName)),
        (⟨1#1, 4#3, 4#4, 0#4, 1#3⟩, ⟨.ELR, .EL1, 0⟩), (⟨1#1, 4#3, 5#4, 2#4, 0#3⟩, ⟨.ESR, .EL1, 0⟩),
        (⟨1#1, 4#3, 6#4, 0#4, 0#3⟩, ⟨.FAR, .EL1, 0⟩), (⟨1#1, 4#3, 5#4, 6#4, 0#3⟩, ⟨.TFSR, .EL1, 0⟩)] →
    s.cfg.regNames = [] → s.pstate.el = .EL1 → s.cfg.el2Enabled = true →
    (effNV s).nv = true → (effNV s).nv2 = true →
      (implemented s.cfg (sysRegName s.cfg e) = true →
        (∃ t, exec (.mrs e rt) s = .next t ∧ Loads rt (s.reg r') s t ∧ KeepsRegsBut [] s t ∧
          KeepsMemory s t ∧ Continues s t ∧ t.events = s.events) ∧
        (s.Inv → ∃ t, exec (.msr e rt) s = .next t ∧ t.reg r' = s.x rt ∧
          KeepsRegsBut [r'] s t ∧ KeepsGprsBut [] s t ∧ KeepsMemory s t ∧ Continues s t ∧
          t.events = s.events)) ∧
      (implemented s.cfg (sysRegName s.cfg e) = false → ∀ dir,
        classifyRegAccess s (sysRegName s.cfg e) dir false = .unallocated)

/-! ## Transformed accesses -/

/-- R52, "SignExtend(VNCR_EL2.BADDR : Offset<11:0>, 64)": the bits of the address, for every place of
the top bit of BADDR; no bit of VNCR_EL2 below bit 12 or above that top bit matters. -/
def Obligations.VncrAddressBits : Prop :=
  ∀ (s : State) (off : BitVec 12) (k : Nat), 12 ≤ s.cfg.baddrHi → s.cfg.baddrHi ≤ 63 → k < 64 →
    (vncrAddress s off).getLsbD k =
      if k < 12 then off.getLsbD k
      else (s.reg ⟨.VNCR, .EL2, 0⟩).getLsbD (min k s.cfg.baddrHi)

/-- R157, R62, R64, R81, R82: in each column an offset belongs to one register, is a multiple of 8, and
lies in the page with the 16 bytes from it; no redirected register has one. The offset of a register that
MRRS and MSRR access is a multiple of 16, whatever registers the implementation lists as 128-bit. -/
def Obligations.OffsetsAreUniqueAndAligned : Prop :=
  ∀ (k : Row298) (nv1 : Bool) (r r' : RegName) (off : BitVec 12),
    vncrOffset k r nv1 = some off →
      off.toNat % 8 = 0 ∧ off.toNat + 16 ≤ 4096 ∧ redirectTarget r = none ∧
        (vncrOffset k r' nv1 = some off → r' = r) ∧
        (∀ c : Config, c.row298 = k → isReg128 c r = true → off.toNat % 16 = 0)

/-- R155, R158, R164, R167: a transformed MRS whose access completes brings all 8 bytes to Xt in the
order of SCTLR_EL2.EE and reads or writes no System register. -/
def Obligations.TransformedReadLoadsSlot : Prop :=
  ∀ (s : State) (e : SysEnc) (rt : BitVec 5) (off : BitVec 12) (pa : Nat) (wb : Bool),
    classifyRegAccess s (sysRegName s.cfg e) .read false = .transform off →
    AccessCompletes s off 8 .read pa wb →
      ∃ t, exec (.mrs e rt) s = .next t ∧
        (∀ k, k < 8 → rt ≠ 31#5 →
          (t.x rt).extractLsb' (8 * k) 8 = s.mem.read (pa + slotByte s 8 k)) ∧
        KeepsGprsBut [rt] s t ∧ KeepsRegsBut [] s t ∧ KeepsMemory s t ∧ Continues s t

/-- R155, R159, R164, R167: a transformed MSR whose access completes stores all 64 bits of Xt in the
8 bytes at the translation of `VncrAddress`, and changes no other byte and no register. -/
def Obligations.TransformedWriteStoresSlot : Prop :=
  ∀ (s : State) (e : SysEnc) (rt : BitVec 5) (off : BitVec 12) (pa : Nat) (wb : Bool), s.Inv →
    classifyRegAccess s (sysRegName s.cfg e) .write false = .transform off →
    AccessCompletes s off 8 .write pa wb →
      ∃ t, exec (.msr e rt) s = .next t ∧
        (∀ k, k < 8 → t.mem.read (pa + slotByte s 8 k) = (s.x rt).extractLsb' (8 * k) 8) ∧
        KeepsMemoryBut pa 8 s t ∧ KeepsRegsBut [] s t ∧ KeepsGprsBut [] s t ∧ Continues s t

/-- R166: a transformed MRRS brings 16 bytes to the pair, Xt bits 63..0 and Xt+1 bits 127..64. -/
def Obligations.TransformedPairReadLoadsSlot : Prop :=
  ∀ (s : State) (e : SysEnc) (rt : BitVec 5) (off : BitVec 12) (pa : Nat) (wb : Bool),
    pairRegisterOk rt = true →
    classifyRegAccess s (sysRegName s.cfg e) .read true = .transform off →
    AccessCompletes s off 16 .read pa wb →
      ∃ t, exec (.mrrs e rt) s = .next t ∧
        (∀ k, k < 8 → (t.x rt).extractLsb' (8 * k) 8 = s.mem.read (pa + slotByte s 16 k)) ∧
        (∀ k, k < 8 → rt ≠ 30#5 →
          (t.x (rt + 1#5)).extractLsb' (8 * k) 8 = s.mem.read (pa + slotByte s 16 (k + 8))) ∧
        KeepsGprsBut [rt, rt + 1#5] s t ∧ KeepsRegsBut [] s t ∧ KeepsMemory s t ∧ Continues s t

/-- R166: a transformed MSRR stores the pair in the 16 bytes of the slot. That with Xt = X30 the upper half is
the zero register is the model's choice (assumption 26): R31 says so of MRS, MSR and SYS only. -/
def Obligations.TransformedPairWriteStoresSlot : Prop :=
  ∀ (s : State) (e : SysEnc) (rt : BitVec 5) (off : BitVec 12) (pa : Nat) (wb : Bool), s.Inv →
    pairRegisterOk rt = true →
    classifyRegAccess s (sysRegName s.cfg e) .write true = .transform off →
    AccessCompletes s off 16 .write pa wb →
      ∃ t, exec (.msrr e rt) s = .next t ∧
        (∀ k, k < 8 →
          t.mem.read (pa + slotByte s 16 k) = (s.x rt).extractLsb' (8 * k) 8 ∧
          t.mem.read (pa + slotByte s 16 (k + 8)) =
            (if rt = 30#5 then 0#64 else s.x (rt + 1#5)).extractLsb' (8 * k) 8) ∧
        KeepsMemoryBut pa 16 s t ∧ KeepsRegsBut [] s t ∧ KeepsGprsBut [] s t ∧ Continues s t

/-- R168: from EL1 under NV2 an access to VNCR_EL2 is the slot at 0xB0 and one to HCR_EL2 the slot at
0x78, for either NV1; a write that completes moves no page and changes no Effective value. -/
def Obligations.GuestWriteMovesNoPage : Prop :=
  ∀ (s : State) (e : SysEnc) (rt : BitVec 5) (r : RegName) (slot : BitVec 12),
    sysRegName s.cfg e = r →
    (r = ⟨.VNCR, .EL2, 0⟩ ∧ slot = 0x0B0#12) ∨ (r = ⟨.HCR, .EL2, 0⟩ ∧ slot = 0x078#12) →
    s.pstate.el = .EL1 → s.cfg.el2Enabled = true → (effNV s).nv2 = true →
    implemented s.cfg r = true →
    (∀ dir, undefAtEL2 s r dir = false ∧ el3TrapHigher s r dir = false) →
      (∀ dir, classifyRegAccess s r dir false = .transform slot) ∧
      (∀ pa wb, AccessCompletes s slot 8 .write pa wb →
        ∃ t, exec (.msr e rt) s = .next t ∧ t.reg r = s.reg r ∧ effNV t = effNV s ∧
          ∀ off, vncrAddress t off = vncrAddress s off)

/-- R267: "a transformed `MSR` followed by a transformed `MRS` of the same register returns the value
written, absent other writers", in either byte order. -/
def Obligations.TransformedWriteReadsBack : Prop :=
  ∀ (s t : State) (e : SysEnc) (rt rt' : BitVec 5) (off : BitVec 12) (pa : Nat) (wb : Bool),
    s.Inv → classifyRegAccess s (sysRegName s.cfg e) .write false = .transform off →
    classifyRegAccess s (sysRegName s.cfg e) .read false = .transform off →
    AccessCompletes s off 8 .write pa wb → AccessCompletes s off 8 .read pa wb →
    exec (.msr e rt) s = .next t →
      ∃ u, exec (.mrs e rt') t = .next u ∧ Loads rt' (s.x rt) t u

/-- R53 to R61, R226, R227, R233 to R235: what the other units see of a transformed access that
completes: EL2 accesses of the regime HCR_EL2.E2H selects, without Acquire or Release semantics, one
of the whole size, or two of 8 bytes when 16 bytes go to memory that is not Write-back and the
implementation chose so; one Memory-read or Memory-write operation filtered at EL1 (one for two halves too:
assumption 33); and, if the
Statistical Profiling Unit selects the instruction, one Load/Store record, with the address only if
profiling is enabled at EL2. -/
def Obligations.TransformedAccessEvents : Prop :=
  ∀ (s : State) (i : Instr) (off : BitVec 12) (size : Nat) (dir : Dir) (pa : Nat) (wb : Bool),
    TransformsTo s i off size dir → AccessCompletes s off size dir pa wb →
      ∃ t, exec i s = .next t ∧
        t.events = s.events ++
          ((if size = 16 ∧ wb = false ∧ s.cfg.cu128NonWB = .atomic64 then
              [Event.access (vncrAddress s off) 8 dir .EL2 (el2Regime s) false,
                .access (vncrAddress s off + 8#64) 8 dir .EL2 (el2Regime s) false]
            else [Event.access (vncrAddress s off) size dir .EL2 (el2Regime s) false]) ++
          [.pmuMemory dir .EL1] ++
          (if s.profiling.selects = true then
            [.profiled (if s.profiling.enabledEL2 = true then some (vncrAddress s off) else none)]
          else []))

/-- R205 to R209: a transformed access that faults in translation or lacks permission at EL2 is a Data
Abort to EL2 with class 0x25, VNCR set and FAR_EL2 the address; the instruction has no other
effect. If the Statistical Profiling Unit selects the instruction it records the operation all the same
(R234 has no condition on the outcome), in this statement and the next four. That the other units see no
access and no Performance Monitors operation of an access that does not complete is the model's choice
(assumption 33), in those five statements too. -/
def Obligations.TransformedAccessDataAbort : Prop :=
  ∀ (s : State) (i : Instr) (off : BitVec 12) (size : Nat) (dir : Dir), s.Inv →
    TransformsTo s i off size dir →
      (∀ fsc, translate s (el2Regime s) false (vncrAddress s off) = .fault fsc →
        ∃ t, exec i s = .next t ∧
          EntersEL2 0x25#6 (issOfVncrFault dir fsc) (profiledAt s off) t ∧
          t.reg ⟨.FAR, .EL2, 0⟩ = vncrAddress s off) ∧
      (∀ pa p level wb ea,
        translate s (el2Regime s) false (vncrAddress s off) = .ok pa p level wb ea →
        dataPermitted p true false dir = false →
          ∃ t, exec i s = .next t ∧
            EntersEL2 0x25#6 (issOfVncrFault dir (0b0011#4 ++ level)) (profiledAt s off) t ∧
            t.reg ⟨.FAR, .EL2, 0⟩ = vncrAddress s off)

/-- R211, R212: a synchronous External abort on a transformed access that no watchpoint claims goes
to EL2 with class 0x25 and VNCR set (status code 0x10, vector B7b.5), FAR_EL2 not constrained; where
External aborts are configured to be taken to EL3 it goes there, and of ESR_EL3 only VNCR is
stated. The model's choices are the events (assumption 33), the registers that the entry to EL3 writes
(assumption 46), and the status code and the order after a watchpoint (assumption 28). -/
def Obligations.TransformedAccessExternalAbort : Prop :=
  ∀ (s : State) (i : Instr) (off : BitVec 12) (size : Nat) (dir : Dir) (pa : Nat) (p : Perms)
    (level : BitVec 2) (wb : Bool), s.Inv → TransformsTo s i off size dir →
    translate s (el2Regime s) false (vncrAddress s off) = .ok pa p level wb true →
    dataPermitted p true false dir = true →
    (∀ w ∈ s.dbg.watchpoints, watchpointMatches w (vncrAddress s off) size dir = false) →
      ((s.cfg.haveEL3 && s.cfg.eaToEL3) = false →
        ∃ t, exec i s = .next t ∧
          EntersEL2 0x25#6 (issOfVncrFault dir 0b010000#6) (profiledAt s off) t) ∧
      ((s.cfg.haveEL3 && s.cfg.eaToEL3) = true →
        ∃ t, exec i s = .next t ∧ t.pstate.el = .EL3 ∧
          (t.reg ⟨.ESR, .EL3, 0⟩).getLsbD 13 = true ∧
          KeepsRegsBut [⟨.ESR, .EL3, 0⟩, ⟨.FAR, .EL3, 0⟩, ⟨.ELR, .EL3, 0⟩, ⟨.SPSR, .EL3, 0⟩] s t ∧
          KeepsGprsBut [] s t ∧ KeepsMemory s t ∧ t.events = (profiledAt s off).events)

/-- R227, R230 to R232: a watchpoint that matches EL2 accesses, is not linked and matches a transformed
access with debug exceptions enabled at EL2, the OS Lock unlocked and no halting, is a Watchpoint
exception to EL2 with class 0x35 and VNCR set; FAR_EL2 is a byte of the access that a matching
watchpoint watches. Three clauses are the model's choice: the access does not complete (assumption 29; R231
says that this is not stated), the watchpoint is taken before an External abort of the same access
(assumption 28), and the other units do not see the access (assumption 33). -/
def Obligations.TransformedAccessWatchpointException : Prop :=
  ∀ (s : State) (i : Instr) (off : BitVec 12) (size : Nat) (dir : Dir) (pa : Nat) (p : Perms)
    (level : BitVec 2) (wb ea : Bool) (w : Watchpoint), s.Inv → TransformsTo s i off size dir →
    translate s (el2Regime s) false (vncrAddress s off) = .ok pa p level wb ea →
    dataPermitted p true false dir = true → w ∈ s.dbg.watchpoints →
    watchpointMatches w (vncrAddress s off) size dir = true → w.linkedContext = false →
    s.dbg.osLockUnlocked = true → (s.dbg.hde && s.dbg.haltingAllowed) = false →
    s.dbg.debugExceptionsEL2 = true →
      ∃ t, exec i s = .next t ∧
        EntersEL2 0x35#6 (issOfVncrFault dir 0b100010#6) (profiledAt s off) t ∧
        ∃ w' ∈ s.dbg.watchpoints, watchpointMatches w' (vncrAddress s off) size dir = true ∧
          t.reg ⟨.FAR, .EL2, 0⟩ ∈ watchedBytes w' (vncrAddress s off) size

/-- R229: with EDSCR.HDE 1, halting allowed and the OS Lock unlocked a match is a Watchpoint debug
event: the PE halts and no exception is taken. Four clauses are the model's choice: no register, no memory
and no process state is written on entry to Debug state, and the next step is a fault (assumption 30; what
Debug state is lies outside the source), the event comes before an External abort of the same access
(assumption 28), and the other units do not see the access (assumption 33). -/
def Obligations.TransformedAccessWatchpointHalts : Prop :=
  ∀ (s : State) (i : Instr) (off : BitVec 12) (size : Nat) (dir : Dir) (pa : Nat) (p : Perms)
    (level : BitVec 2) (wb ea : Bool) (w : Watchpoint), TransformsTo s i off size dir →
    translate s (el2Regime s) false (vncrAddress s off) = .ok pa p level wb ea →
    dataPermitted p true false dir = true → w ∈ s.dbg.watchpoints →
    watchpointMatches w (vncrAddress s off) size dir = true → w.linkedContext = false →
    s.dbg.osLockUnlocked = true → s.dbg.hde = true → s.dbg.haltingAllowed = true →
      ∃ t, exec i s = .next t ∧
        t = { profiledAt s off with dbg := { s.dbg with halted := true }, draw := t.draw } ∧
        step t = .fault .debugState

/-- R228: whether a watchpoint linked to a breakpoint on CONTEXTIDR_EL1 or VMID matches is CONSTRAINED
UNPREDICTABLE. Where all that could match are linked, the outcomes are exactly two: the Watchpoint
exception at a byte that one of them watches, and the completed access, which moves the bytes of the slot
as the form of the instruction says and changes nothing else. Three clauses are the model's choice: the
access of the first outcome does not complete (assumption 29) and the other units do not see it (assumption
33), and the pair of MSRR with X30 has the zero register as its upper half (assumption 26). -/
def Obligations.LinkedWatchpointMatchesOrNot : Prop :=
  ∀ (s : State) (i : Instr) (off : BitVec 12) (size : Nat) (dir : Dir) (pa : Nat) (p : Perms)
    (level : BitVec 2) (wb : Bool) (w : Watchpoint), s.Inv → wellFormed i = true →
    TransformsTo s i off size dir →
    translate s (el2Regime s) false (vncrAddress s off) = .ok pa p level wb false →
    dataPermitted p true false dir = true → w ∈ s.dbg.watchpoints →
    watchpointMatches w (vncrAddress s off) size dir = true →
    (∀ w' ∈ s.dbg.watchpoints, watchpointMatches w' (vncrAddress s off) size dir = true →
      w'.linkedContext = true) →
    s.dbg.osLockUnlocked = true → (s.dbg.hde && s.dbg.haltingAllowed) = false →
    s.dbg.debugExceptionsEL2 = true →
      ∃ t, exec i s = .next t ∧
        ((EntersEL2 0x35#6 (issOfVncrFault dir 0b100010#6) (profiledAt s off) t ∧
            ∃ w' ∈ s.dbg.watchpoints, watchpointMatches w' (vncrAddress s off) size dir = true ∧
              t.reg ⟨.FAR, .EL2, 0⟩ ∈ watchedBytes w' (vncrAddress s off) size) ∨
          (MovesSlot i pa s t ∧ KeepsRegsBut [] s t ∧ Continues s t))

/-- R130: MRRS or MSRR from EL1 of a 128-bit register that NV, or NV1, traps in the 64-bit form, or
that FEAT_NV2 redirects, and that is not transformed, is `Unspecified`, and "a model refuses
`Unspecified` (gives the step no meaning)"; where the conditions of R155 hold it is transformed. -/
def Obligations.PairAccessTrappedInTheShortFormIsRefused : Prop :=
  ∀ (s : State) (e : SysEnc) (rt : BitVec 5) (r : RegName), sysRegName s.cfg e = r →
    s.pstate.el = .EL1 → s.cfg.el2Enabled = true → isReg128 s.cfg r = true →
    implemented s.cfg r = true → r ≠ ⟨.CurrentEL, .none, 0⟩ →
    (∀ dir, undefAtEL2 s r dir = false ∧ el3TrapHigher s r dir = false ∧
      otherTrap s (.reg r dir) = none) →
      (((effNV s).nv2 = false ∨
          (vncrOffset s.cfg.row298 r (effNV s).nv1 = none)) →
        ((effNV s).nv = true ∧ nvTrapSet r = true) ∨
          (((effNV s).nv = true ∧ (effNV s).nv1 = true ∨ (effNV s).trapOnly = true) ∧
            nv1Set r = true) →
          exec (.mrrs e rt) s = .refused .unspecified128 ∧
            exec (.msrr e rt) s = .refused .unspecified128) ∧
      ((effNV s).nv2 = true → ∀ off, vncrOffset s.cfg.row298 r (effNV s).nv1 = some off →
        TransformsTo s (.mrrs e rt) off 16 .read ∧ TransformsTo s (.msrr e rt) off 16 .write)

/-! ## Translation of the EL1&0 regime, AT and TLBI -/

/-- R42, R43, R45 to R48: the permissions that a stage 1 translation of the EL1&0 regime yields when no
TLB entry holds an older pair. Under `NV1Active` PXN is bit 54, PXNTable is bit 60, AP[1] and
APTable[0] count as 0 and bits 53 and 59 of the descriptors are not read; otherwise the bits have
their base meaning. Table descriptors count only with hierarchical permissions enabled. -/
def Obligations.DescriptorBitsUnderNV1 : Prop :=
  ∀ (s : State) (va : Word) (out : BitVec 52) (level : BitVec 2) (ts : List Word) (d : Word)
    (wb ea h : Bool), s.tlbHeldNV = [] → walk s .el10 va = .page out level ts d wb ea →
    h = hierarchicalEnabled s .el10 va →
      ∃ p, translate s .el10 (regimeReading s .el10).1 va = .ok (physical out va) p level wb ea ∧
        p.ap2 = (d.getLsbD 7 || (h && ts.any (fun x => x.getLsbD 62))) ∧
        (nv1Active s = true →
          p.pxn = (d.getLsbD 54 || (h && ts.any (fun x => x.getLsbD 60))) ∧ p.ap1 = false) ∧
        (nv1Active s = false →
          p.pxn = (d.getLsbD 53 || (h && ts.any (fun x => x.getLsbD 59))) ∧
            p.uxn = some (d.getLsbD 54 || (h && ts.any (fun x => x.getLsbD 60))) ∧
            p.ap1 = (d.getLsbD 6 && !(h && ts.any (fun x => x.getLsbD 61))))

/-- R49: under `NV1Active` PSTATE.PAN is treated as 0 by every permission check, and a read of the bit,
by MRS or in an SPSR image, returns what is stored. -/
def Obligations.PanTreatedAsZeroUnderNV1 : Prop :=
  ∀ s : State, nv1Active s = true →
    effPAN s = false ∧
      (∀ op nv1 va, stage1Faults s op nv1 va =
        stage1Faults { s with pstate := { s.pstate with pan := false } } op nv1 va) ∧
      s.pstate.image.getLsbD 22 = s.pstate.pan ∧
      (∀ e rt, sysRegName s.cfg e = ⟨.PAN, .none, 0⟩ → Accessible s ⟨.PAN, .none, 0⟩ .read →
        ∃ t, exec (.mrs e rt) s = .next t ∧
          Loads rt (if s.pstate.pan = true then 1#64 <<< 22 else 0#64) s t ∧
          KeepsRegsBut [] s t ∧ KeepsMemory s t ∧ Continues s t)

/-- R50: under `NV1Active` the Effective value of PSTATE.UAO is 1 and the stored bit is not changed:
MRS returns it; elsewhere the Effective value is the stored bit. That MRS returns the stored bit in bit 23 and
0 in every other bit is the model's choice (assumption 12): R50 and R26 do not state the read. -/
def Obligations.UaoIsOneUnderNV1 : Prop :=
  ∀ s : State,
    (nv1Active s = true → effUAO s = true ∧
      ∀ e rt, sysRegName s.cfg e = ⟨.UAO, .none, 0⟩ → Accessible s ⟨.UAO, .none, 0⟩ .read →
        ∃ t, exec (.mrs e rt) s = .next t ∧
          Loads rt (if s.pstate.uao = true then 1#64 <<< 23 else 0#64) s t ∧
          t.pstate = s.pstate) ∧
    (nv1Active s = false → effUAO s = s.pstate.uao)

/-- R78, R110, R138, vectors B4.9 and P4: an AT operation that is not trapped and that the level may
execute writes PAR_EL1 and nothing else. Bit 0 of PAR_EL1, for an operation of stage 1 only and with
no older pair in a TLB, says whether the translation faulted (assumption 23: the model's choice), in the
regime, for the level and with the permission check of assumptions 47 and 53, by the permission rules of
assumption 8. -/
def Obligations.AddressTranslationWritesPAR : Prop :=
  ∀ (s : State) (i : Instr) (op : AtOp), atOf i = some op → s.Inv → atTrapped s op = false →
    (op ∈ [AtOp.S1E1RP, .S1E1WP] → s.cfg.havePAN2 = true) →
    (op ∈ [AtOp.S1E2A, .S1E1A] → s.cfg.haveATS1A = true) → s.pstate.el ≠ .EL0 →
    (op ∈ [AtOp.S1E2R, .S1E2W, .S12E1R, .S12E1W, .S12E0R, .S12E0W, .S1E2A] →
      s.pstate.el ≠ .EL1) →
    otherTrap s (.sys (sysOpOfWord (encode i))) = none →
      ∃ t, exec i s = .next t ∧ KeepsRegsBut [⟨.PAR, .EL1, 0⟩] s t ∧ KeepsGprsBut [] s t ∧
        KeepsMemory s t ∧ Continues s t ∧ t.events = s.events ∧
        (s.tlbHeldNV = [] → op ∉ [AtOp.S12E1R, .S12E1W, .S12E0R, .S12E0W] →
          (t.reg ⟨.PAR, .EL1, 0⟩).getLsbD 0 =
            stage1Faults s op (decide (atRegime s op = .el10) && nv1Active s)
              (s.x (rtOf (encode i))))

/-- R118, R100: a TLBI operation whose features are implemented completes at EL2 and EL3 where no
other trap is due; no register and no memory changes, and of the pairs a TLB holds some may go and
none is added (assumption 24). That the debug inputs stay is the model's choice (assumption 54). -/
def Obligations.TlbMaintenanceCompletes : Prop :=
  ∀ (s : State) (i : Instr) (n : TlbiNeeds), tlbiOf i = some n → n.met s.cfg →
    s.pstate.el = .EL2 ∨ s.pstate.el = .EL3 →
    otherTrap s (.sys (sysOpOfWord (encode i))) = none →
      ∃ t, exec i s = .next t ∧ (∀ p ∈ t.tlbHeldNV, p ∈ s.tlbHeldNV) ∧ t.pc = s.pc + 4#64 ∧
        t.pstate = s.pstate ∧ t.dbg = s.dbg ∧ t.events = s.events ∧ KeepsRegsBut [] s t ∧
        KeepsGprsBut [] s t ∧ KeepsMemory s t ∧ KeepsSurroundings s t

/-! ## The whole machine -/

/-- R261, "EL1 cannot write them": no step that starts at EL0 or EL1 changes a register named *_EL2, but
for the four that an entry to EL2 writes. HCR_EL2, VNCR_EL2, SCTLR_EL2 and VBAR_EL2 are among the
registers it protects. -/
def Obligations.GuestNeverChangesEL2Registers : Prop :=
  ∀ (s t : State) (r : RegName), s.pstate.el = .EL0 ∨ s.pstate.el = .EL1 → step s = .next t →
    r.sfx = .EL2 →
    r ∉ [(⟨.ESR, .EL2, 0⟩ : RegName), ⟨.FAR, .EL2, 0⟩, ⟨.ELR, .EL2, 0⟩, ⟨.SPSR, .EL2, 0⟩] →
      t.reg128 r = s.reg128 r

/-- The only way up: a step from EL1 that ends at EL2 is an exception entry, so it resumes in the vector
table of EL2 with every interrupt masked, at its own stack pointer (R213).That the offset is 0x400
from EL0 too is assumption 17: R210 gives it for EL1. -/
def Obligations.GuestReachesEL2OnlyByTheVector : Prop :=
  ∀ s t : State, s.pstate.el = .EL0 ∨ s.pstate.el = .EL1 → step s = .next t →
    t.pstate.el = .EL2 →
      t.pc = s.reg ⟨.VBAR, .EL2, 0⟩ + 0x400#64 ∧ t.pstate.sp = true ∧ t.pstate.d = true ∧
        t.pstate.a = true ∧ t.pstate.i = true ∧ t.pstate.f = true
end

