-- ==== Sys2Proof/Laws/State.lean ====
section
/-! SUPPORT. The fields of the state after each named update, true by rfl or by one case split, so
that no later proof unfolds a record update. -/

namespace Sys2Proof.Machine

/-! ## A register written -/

@[simp] theorem State.setReg128_cfg (s : State) (r : RegName) (v : DWord) :
    (s.setReg128 r v).cfg = s.cfg := rfl
@[simp] theorem State.setReg128_gpr (s : State) (r : RegName) (v : DWord) :
    (s.setReg128 r v).gpr = s.gpr := rfl
@[simp] theorem State.setReg128_pc (s : State) (r : RegName) (v : DWord) :
    (s.setReg128 r v).pc = s.pc := rfl
@[simp] theorem State.setReg128_pstate (s : State) (r : RegName) (v : DWord) :
    (s.setReg128 r v).pstate = s.pstate := rfl
@[simp] theorem State.setReg128_sec (s : State) (r : RegName) (v : DWord) :
    (s.setReg128 r v).sec = s.sec := rfl
@[simp] theorem State.setReg128_regs (s : State) (r : RegName) (v : DWord) :
    (s.setReg128 r v).regs = storeWrite 0#128 s.regs (regKey (storageName r)) v := rfl
@[simp] theorem State.setReg128_mem (s : State) (r : RegName) (v : DWord) :
    (s.setReg128 r v).mem = s.mem := rfl
@[simp] theorem State.setReg128_mappings (s : State) (r : RegName) (v : DWord) :
    (s.setReg128 r v).mappings = s.mappings := rfl
@[simp] theorem State.setReg128_tlbHeldNV (s : State) (r : RegName) (v : DWord) :
    (s.setReg128 r v).tlbHeldNV = s.tlbHeldNV := rfl
@[simp] theorem State.setReg128_dbg (s : State) (r : RegName) (v : DWord) :
    (s.setReg128 r v).dbg = s.dbg := rfl
@[simp] theorem State.setReg128_profiling (s : State) (r : RegName) (v : DWord) :
    (s.setReg128 r v).profiling = s.profiling := rfl
@[simp] theorem State.setReg128_events (s : State) (r : RegName) (v : DWord) :
    (s.setReg128 r v).events = s.events := rfl
@[simp] theorem State.setReg128_draw (s : State) (r : RegName) (v : DWord) :
    (s.setReg128 r v).draw = s.draw := rfl

@[simp] theorem State.setReg_cfg (s : State) (r : RegName) (v : Word) :
    (s.setReg r v).cfg = s.cfg := rfl
@[simp] theorem State.setReg_gpr (s : State) (r : RegName) (v : Word) :
    (s.setReg r v).gpr = s.gpr := rfl
@[simp] theorem State.setReg_pc (s : State) (r : RegName) (v : Word) :
    (s.setReg r v).pc = s.pc := rfl
@[simp] theorem State.setReg_pstate (s : State) (r : RegName) (v : Word) :
    (s.setReg r v).pstate = s.pstate := rfl
@[simp] theorem State.setReg_sec (s : State) (r : RegName) (v : Word) :
    (s.setReg r v).sec = s.sec := rfl
@[simp] theorem State.setReg_regs (s : State) (r : RegName) (v : Word) :
    (s.setReg r v).regs = storeWrite 0#128 s.regs (regKey (storageName r)) (v.setWidth 128) := rfl
@[simp] theorem State.setReg_mem (s : State) (r : RegName) (v : Word) :
    (s.setReg r v).mem = s.mem := rfl
@[simp] theorem State.setReg_mappings (s : State) (r : RegName) (v : Word) :
    (s.setReg r v).mappings = s.mappings := rfl
@[simp] theorem State.setReg_tlbHeldNV (s : State) (r : RegName) (v : Word) :
    (s.setReg r v).tlbHeldNV = s.tlbHeldNV := rfl
@[simp] theorem State.setReg_dbg (s : State) (r : RegName) (v : Word) :
    (s.setReg r v).dbg = s.dbg := rfl
@[simp] theorem State.setReg_profiling (s : State) (r : RegName) (v : Word) :
    (s.setReg r v).profiling = s.profiling := rfl
@[simp] theorem State.setReg_events (s : State) (r : RegName) (v : Word) :
    (s.setReg r v).events = s.events := rfl
@[simp] theorem State.setReg_draw (s : State) (r : RegName) (v : Word) :
    (s.setReg r v).draw = s.draw := rfl

/-! ## Draws, the next instruction and events -/

@[simp] theorem State.drawn_cfg (s : State) (n : Nat) :
    (s.drawn n).cfg = s.cfg := rfl
@[simp] theorem State.drawn_gpr (s : State) (n : Nat) :
    (s.drawn n).gpr = s.gpr := rfl
@[simp] theorem State.drawn_pc (s : State) (n : Nat) :
    (s.drawn n).pc = s.pc := rfl
@[simp] theorem State.drawn_pstate (s : State) (n : Nat) :
    (s.drawn n).pstate = s.pstate := rfl
@[simp] theorem State.drawn_sec (s : State) (n : Nat) :
    (s.drawn n).sec = s.sec := rfl
@[simp] theorem State.drawn_regs (s : State) (n : Nat) :
    (s.drawn n).regs = s.regs := rfl
@[simp] theorem State.drawn_mem (s : State) (n : Nat) :
    (s.drawn n).mem = s.mem := rfl
@[simp] theorem State.drawn_mappings (s : State) (n : Nat) :
    (s.drawn n).mappings = s.mappings := rfl
@[simp] theorem State.drawn_tlbHeldNV (s : State) (n : Nat) :
    (s.drawn n).tlbHeldNV = s.tlbHeldNV := rfl
@[simp] theorem State.drawn_dbg (s : State) (n : Nat) :
    (s.drawn n).dbg = s.dbg := rfl
@[simp] theorem State.drawn_profiling (s : State) (n : Nat) :
    (s.drawn n).profiling = s.profiling := rfl
@[simp] theorem State.drawn_events (s : State) (n : Nat) :
    (s.drawn n).events = s.events := rfl
@[simp] theorem State.drawn_draw (s : State) (n : Nat) :
    (s.drawn n).draw = s.draw + n := rfl

@[simp] theorem State.advance_cfg (s : State) :
    (s.advance).cfg = s.cfg := rfl
@[simp] theorem State.advance_gpr (s : State) :
    (s.advance).gpr = s.gpr := rfl
@[simp] theorem State.advance_pc (s : State) :
    (s.advance).pc = s.pc + 4#64 := rfl
@[simp] theorem State.advance_pstate (s : State) :
    (s.advance).pstate = s.pstate := rfl
@[simp] theorem State.advance_sec (s : State) :
    (s.advance).sec = s.sec := rfl
@[simp] theorem State.advance_regs (s : State) :
    (s.advance).regs = s.regs := rfl
@[simp] theorem State.advance_mem (s : State) :
    (s.advance).mem = s.mem := rfl
@[simp] theorem State.advance_mappings (s : State) :
    (s.advance).mappings = s.mappings := rfl
@[simp] theorem State.advance_tlbHeldNV (s : State) :
    (s.advance).tlbHeldNV = s.tlbHeldNV := rfl
@[simp] theorem State.advance_dbg (s : State) :
    (s.advance).dbg = s.dbg := rfl
@[simp] theorem State.advance_profiling (s : State) :
    (s.advance).profiling = s.profiling := rfl
@[simp] theorem State.advance_events (s : State) :
    (s.advance).events = s.events := rfl
@[simp] theorem State.advance_draw (s : State) :
    (s.advance).draw = s.draw := rfl

@[simp] theorem State.record_cfg (s : State) (es : List Event) :
    (s.record es).cfg = s.cfg := rfl
@[simp] theorem State.record_gpr (s : State) (es : List Event) :
    (s.record es).gpr = s.gpr := rfl
@[simp] theorem State.record_pc (s : State) (es : List Event) :
    (s.record es).pc = s.pc := rfl
@[simp] theorem State.record_pstate (s : State) (es : List Event) :
    (s.record es).pstate = s.pstate := rfl
@[simp] theorem State.record_sec (s : State) (es : List Event) :
    (s.record es).sec = s.sec := rfl
@[simp] theorem State.record_regs (s : State) (es : List Event) :
    (s.record es).regs = s.regs := rfl
@[simp] theorem State.record_mem (s : State) (es : List Event) :
    (s.record es).mem = s.mem := rfl
@[simp] theorem State.record_mappings (s : State) (es : List Event) :
    (s.record es).mappings = s.mappings := rfl
@[simp] theorem State.record_tlbHeldNV (s : State) (es : List Event) :
    (s.record es).tlbHeldNV = s.tlbHeldNV := rfl
@[simp] theorem State.record_dbg (s : State) (es : List Event) :
    (s.record es).dbg = s.dbg := rfl
@[simp] theorem State.record_profiling (s : State) (es : List Event) :
    (s.record es).profiling = s.profiling := rfl
@[simp] theorem State.record_events (s : State) (es : List Event) :
    (s.record es).events = s.events ++ es := rfl
@[simp] theorem State.record_draw (s : State) (es : List Event) :
    (s.record es).draw = s.draw := rfl

/-! ## A general register written -/

@[simp] theorem State.setX_cfg (s : State) (t : BitVec 5) (v : Word) :
    (s.setX t v).cfg = s.cfg := by
  unfold State.setX; split <;> rfl
@[simp] theorem State.setX_pc (s : State) (t : BitVec 5) (v : Word) :
    (s.setX t v).pc = s.pc := by
  unfold State.setX; split <;> rfl
@[simp] theorem State.setX_pstate (s : State) (t : BitVec 5) (v : Word) :
    (s.setX t v).pstate = s.pstate := by
  unfold State.setX; split <;> rfl
@[simp] theorem State.setX_sec (s : State) (t : BitVec 5) (v : Word) :
    (s.setX t v).sec = s.sec := by
  unfold State.setX; split <;> rfl
@[simp] theorem State.setX_regs (s : State) (t : BitVec 5) (v : Word) :
    (s.setX t v).regs = s.regs := by
  unfold State.setX; split <;> rfl
@[simp] theorem State.setX_mem (s : State) (t : BitVec 5) (v : Word) :
    (s.setX t v).mem = s.mem := by
  unfold State.setX; split <;> rfl
@[simp] theorem State.setX_mappings (s : State) (t : BitVec 5) (v : Word) :
    (s.setX t v).mappings = s.mappings := by
  unfold State.setX; split <;> rfl
@[simp] theorem State.setX_tlbHeldNV (s : State) (t : BitVec 5) (v : Word) :
    (s.setX t v).tlbHeldNV = s.tlbHeldNV := by
  unfold State.setX; split <;> rfl
@[simp] theorem State.setX_dbg (s : State) (t : BitVec 5) (v : Word) :
    (s.setX t v).dbg = s.dbg := by
  unfold State.setX; split <;> rfl
@[simp] theorem State.setX_profiling (s : State) (t : BitVec 5) (v : Word) :
    (s.setX t v).profiling = s.profiling := by
  unfold State.setX; split <;> rfl
@[simp] theorem State.setX_events (s : State) (t : BitVec 5) (v : Word) :
    (s.setX t v).events = s.events := by
  unfold State.setX; split <;> rfl
@[simp] theorem State.setX_draw (s : State) (t : BitVec 5) (v : Word) :
    (s.setX t v).draw = s.draw := by
  unfold State.setX; split <;> rfl
@[simp] theorem State.setXPair_cfg (s : State) (t : BitVec 5) (v : DWord) :
    (s.setXPair t v).cfg = s.cfg := by
  simp [State.setXPair]
@[simp] theorem State.setXPair_pc (s : State) (t : BitVec 5) (v : DWord) :
    (s.setXPair t v).pc = s.pc := by
  simp [State.setXPair]
@[simp] theorem State.setXPair_pstate (s : State) (t : BitVec 5) (v : DWord) :
    (s.setXPair t v).pstate = s.pstate := by
  simp [State.setXPair]
@[simp] theorem State.setXPair_sec (s : State) (t : BitVec 5) (v : DWord) :
    (s.setXPair t v).sec = s.sec := by
  simp [State.setXPair]
@[simp] theorem State.setXPair_regs (s : State) (t : BitVec 5) (v : DWord) :
    (s.setXPair t v).regs = s.regs := by
  simp [State.setXPair]
@[simp] theorem State.setXPair_mem (s : State) (t : BitVec 5) (v : DWord) :
    (s.setXPair t v).mem = s.mem := by
  simp [State.setXPair]
@[simp] theorem State.setXPair_mappings (s : State) (t : BitVec 5) (v : DWord) :
    (s.setXPair t v).mappings = s.mappings := by
  simp [State.setXPair]
@[simp] theorem State.setXPair_tlbHeldNV (s : State) (t : BitVec 5) (v : DWord) :
    (s.setXPair t v).tlbHeldNV = s.tlbHeldNV := by
  simp [State.setXPair]
@[simp] theorem State.setXPair_dbg (s : State) (t : BitVec 5) (v : DWord) :
    (s.setXPair t v).dbg = s.dbg := by
  simp [State.setXPair]
@[simp] theorem State.setXPair_profiling (s : State) (t : BitVec 5) (v : DWord) :
    (s.setXPair t v).profiling = s.profiling := by
  simp [State.setXPair]
@[simp] theorem State.setXPair_events (s : State) (t : BitVec 5) (v : DWord) :
    (s.setXPair t v).events = s.events := by
  simp [State.setXPair]
@[simp] theorem State.setXPair_draw (s : State) (t : BitVec 5) (v : DWord) :
    (s.setXPair t v).draw = s.draw := by
  simp [State.setXPair]

/-! ## A register of 64 bits written -/

@[simp] theorem State.setReg64_cfg (s : State) (n : Nat) (r : RegName) (v : Word) :
    (s.setReg64 n r v).cfg = s.cfg := by
  unfold State.setReg64; split <;> rfl
@[simp] theorem State.setReg64_gpr (s : State) (n : Nat) (r : RegName) (v : Word) :
    (s.setReg64 n r v).gpr = s.gpr := by
  unfold State.setReg64; split <;> rfl
@[simp] theorem State.setReg64_pc (s : State) (n : Nat) (r : RegName) (v : Word) :
    (s.setReg64 n r v).pc = s.pc := by
  unfold State.setReg64; split <;> rfl
@[simp] theorem State.setReg64_pstate (s : State) (n : Nat) (r : RegName) (v : Word) :
    (s.setReg64 n r v).pstate = s.pstate := by
  unfold State.setReg64; split <;> rfl
@[simp] theorem State.setReg64_sec (s : State) (n : Nat) (r : RegName) (v : Word) :
    (s.setReg64 n r v).sec = s.sec := by
  unfold State.setReg64; split <;> rfl
@[simp] theorem State.setReg64_mem (s : State) (n : Nat) (r : RegName) (v : Word) :
    (s.setReg64 n r v).mem = s.mem := by
  unfold State.setReg64; split <;> rfl
@[simp] theorem State.setReg64_mappings (s : State) (n : Nat) (r : RegName) (v : Word) :
    (s.setReg64 n r v).mappings = s.mappings := by
  unfold State.setReg64; split <;> rfl
@[simp] theorem State.setReg64_tlbHeldNV (s : State) (n : Nat) (r : RegName) (v : Word) :
    (s.setReg64 n r v).tlbHeldNV = s.tlbHeldNV := by
  unfold State.setReg64; split <;> rfl
@[simp] theorem State.setReg64_dbg (s : State) (n : Nat) (r : RegName) (v : Word) :
    (s.setReg64 n r v).dbg = s.dbg := by
  unfold State.setReg64; split <;> rfl
@[simp] theorem State.setReg64_profiling (s : State) (n : Nat) (r : RegName) (v : Word) :
    (s.setReg64 n r v).profiling = s.profiling := by
  unfold State.setReg64; split <;> rfl
@[simp] theorem State.setReg64_events (s : State) (n : Nat) (r : RegName) (v : Word) :
    (s.setReg64 n r v).events = s.events := by
  unfold State.setReg64; split <;> rfl
@[simp] theorem State.setReg64_draw (s : State) (n : Nat) (r : RegName) (v : Word) :
    (s.setReg64 n r v).draw = s.draw := by
  unfold State.setReg64; split <;> rfl

/-! ## A register stored by MSR -/

@[simp] theorem State.store64_cfg (s : State) (r : RegName) (v : Word) :
    (s.store64 r v).cfg = s.cfg := by
  simp [State.store64]
@[simp] theorem State.store64_gpr (s : State) (r : RegName) (v : Word) :
    (s.store64 r v).gpr = s.gpr := by
  simp [State.store64]
@[simp] theorem State.store64_pc (s : State) (r : RegName) (v : Word) :
    (s.store64 r v).pc = s.pc := by
  simp [State.store64]
@[simp] theorem State.store64_pstate (s : State) (r : RegName) (v : Word) :
    (s.store64 r v).pstate = s.pstate := by
  simp [State.store64]
@[simp] theorem State.store64_sec (s : State) (r : RegName) (v : Word) :
    (s.store64 r v).sec = s.sec := by
  simp [State.store64]
@[simp] theorem State.store64_mem (s : State) (r : RegName) (v : Word) :
    (s.store64 r v).mem = s.mem := by
  simp [State.store64]
@[simp] theorem State.store64_mappings (s : State) (r : RegName) (v : Word) :
    (s.store64 r v).mappings = s.mappings := by
  simp [State.store64]
@[simp] theorem State.store64_tlbHeldNV (s : State) (r : RegName) (v : Word) :
    (s.store64 r v).tlbHeldNV = s.tlbHeldNV := by
  simp [State.store64]
@[simp] theorem State.store64_dbg (s : State) (r : RegName) (v : Word) :
    (s.store64 r v).dbg = s.dbg := by
  simp [State.store64]
@[simp] theorem State.store64_profiling (s : State) (r : RegName) (v : Word) :
    (s.store64 r v).profiling = s.profiling := by
  simp [State.store64]
@[simp] theorem State.store64_events (s : State) (r : RegName) (v : Word) :
    (s.store64 r v).events = s.events := by
  simp [State.store64]

/-! ## Reads of registers and of process state -/

@[simp] theorem State.x_setReg128 (s : State) (r : RegName) (v : DWord) (k : BitVec 5) :
    (s.setReg128 r v).x k = s.x k := rfl
@[simp] theorem State.x_setReg (s : State) (r : RegName) (v : Word) (k : BitVec 5) :
    (s.setReg r v).x k = s.x k := rfl
@[simp] theorem State.x_setReg64 (s : State) (n : Nat) (r : RegName) (v : Word) (k : BitVec 5) :
    (s.setReg64 n r v).x k = s.x k := by simp [State.x]
@[simp] theorem State.x_drawn (s : State) (n : Nat) (k : BitVec 5) :
    (s.drawn n).x k = s.x k := rfl
@[simp] theorem State.x_advance (s : State) (k : BitVec 5) :
    (s.advance).x k = s.x k := rfl
@[simp] theorem State.x_record (s : State) (es : List Event) (k : BitVec 5) :
    (s.record es).x k = s.x k := rfl
@[simp] theorem State.reg128_drawn (s : State) (n : Nat) (q : RegName) :
    (s.drawn n).reg128 q = s.reg128 q := rfl
@[simp] theorem State.reg_drawn (s : State) (n : Nat) (q : RegName) :
    (s.drawn n).reg q = s.reg q := rfl
@[simp] theorem State.reg128_advance (s : State) (q : RegName) :
    (s.advance).reg128 q = s.reg128 q := rfl
@[simp] theorem State.reg_advance (s : State) (q : RegName) :
    (s.advance).reg q = s.reg q := rfl
@[simp] theorem State.reg128_record (s : State) (es : List Event) (q : RegName) :
    (s.record es).reg128 q = s.reg128 q := rfl
@[simp] theorem State.reg_record (s : State) (es : List Event) (q : RegName) :
    (s.record es).reg q = s.reg q := rfl
@[simp] theorem State.reg128_setX (s : State) (t : BitVec 5) (v : Word) (q : RegName) :
    (s.setX t v).reg128 q = s.reg128 q := by simp [State.reg128]
@[simp] theorem State.reg_setX (s : State) (t : BitVec 5) (v : Word) (q : RegName) :
    (s.setX t v).reg q = s.reg q := by simp [State.reg]
@[simp] theorem State.reg128_setXPair (s : State) (t : BitVec 5) (v : DWord) (q : RegName) :
    (s.setXPair t v).reg128 q = s.reg128 q := by simp [State.reg128]
@[simp] theorem State.reg_setXPair (s : State) (t : BitVec 5) (v : DWord) (q : RegName) :
    (s.setXPair t v).reg q = s.reg q := by simp [State.reg]

end Sys2Proof.Machine
end

