-- ==== Sys2Proof/Laws/Store.lean ====
section
/-! SUPPORT. The laws of the one store form: a read after a write, the canonical form kept by every
operation, equal stores from equal reads, and what reading and writing several bytes does. -/

namespace Sys2Proof.Machine

section Store
variable {β : Type} [DecidableEq β] (d : β)

/-- A key below every listed one reads as unlisted. -/
theorem storeRead_below {lo : Nat} {m : List (Nat × β)} (h : storeWfFrom d lo m = true) {k : Nat}
    (hk : k < lo) : storeRead d m k = d := by
  induction m generalizing lo with
  | nil => rfl
  | cons p rest ih =>
    obtain ⟨k', v⟩ := p
    simp only [storeWfFrom, Bool.and_eq_true, decide_eq_true_eq] at h
    rw [storeRead, if_neg (by omega)]
    exact ih h.2 (by omega)

/-- A write is read back. -/
theorem storeRead_storeWrite_same {lo : Nat} {m : List (Nat × β)}
    (h : storeWfFrom d lo m = true) (k : Nat) (v : β) :
    storeRead d (storeWrite d m k v) k = v := by
  induction m generalizing lo with
  | nil => by_cases hv : v = d <;> simp [storeWrite, storeRead, hv]
  | cons p rest ih =>
    obtain ⟨k', v'⟩ := p
    have hw := h
    simp only [storeWfFrom, Bool.and_eq_true, decide_eq_true_eq] at h
    unfold storeWrite
    split
    · split
      · subst_vars; exact storeRead_below v (lo := k + 1) (by simp [storeWfFrom, h]; omega)
          (Nat.lt_succ_self k)
      · simp [storeRead]
    · split
      · split
        · subst_vars; exact storeRead_below v h.2 (by omega)
        · simp [storeRead]
      · rw [storeRead, if_neg (by assumption)]
        exact ih h.2

/-- A write leaves every other key alone. -/
theorem storeRead_storeWrite_other (m : List (Nat × β)) {k j : Nat} (hj : j ≠ k) (v : β) :
    storeRead d (storeWrite d m k v) j = storeRead d m j := by
  induction m with
  | nil => by_cases hv : v = d <;> simp [storeWrite, storeRead, hv, hj]
  | cons p rest ih =>
    obtain ⟨k', v'⟩ := p
    unfold storeWrite
    split
    · split <;> simp [storeRead, hj]
    · split
      · subst_vars; split <;> simp [storeRead, hj]
      · simp [storeRead, ih]

/-- A write keeps the canonical form. -/
theorem storeWfFrom_storeWrite {lo : Nat} {m : List (Nat × β)} (h : storeWfFrom d lo m = true)
    {k : Nat} (hk : lo ≤ k) (v : β) : storeWfFrom d lo (storeWrite d m k v) = true := by
  induction m generalizing lo with
  | nil => by_cases hv : v = d <;> simp [storeWrite, storeWfFrom, hv, hk]
  | cons p rest ih =>
    obtain ⟨k', v'⟩ := p
    have hw := h
    simp only [storeWfFrom, Bool.and_eq_true, decide_eq_true_eq] at h
    obtain ⟨⟨h1, h2⟩, h3⟩ := h
    have weaken : ∀ {a b : Nat}, a ≤ b → storeWfFrom d b rest = true →
        storeWfFrom d a rest = true := by
      intro a b hab hb
      cases rest with
      | nil => rfl
      | cons q r =>
        simp only [storeWfFrom, Bool.and_eq_true, decide_eq_true_eq] at hb ⊢
        exact ⟨⟨by omega, hb.1.2⟩, hb.2⟩
    unfold storeWrite
    split
    · split
      · exact hw
      · simp [storeWfFrom, *]
    · split
      · subst_vars
        split
        · exact weaken (by omega) h3
        · simp [storeWfFrom, *]
      · simp only [storeWfFrom, Bool.and_eq_true, decide_eq_true_eq]
        exact ⟨⟨h1, h2⟩, ih h3 (by omega)⟩

/-- In canonical form, equal reads mean equal stores: equal memories are equal data. -/
theorem store_ext {lo : Nat} {m n : List (Nat × β)} (hm : storeWfFrom d lo m = true)
    (hn : storeWfFrom d lo n = true) (h : ∀ k, storeRead d m k = storeRead d n k) : m = n := by
  induction m generalizing lo n with
  | nil =>
    cases n with
    | nil => rfl
    | cons q r =>
      have := h q.1
      simp only [storeWfFrom, Bool.and_eq_true, decide_eq_true_eq] at hn
      simp [storeRead] at this
      exact absurd this.symm hn.1.2
  | cons p rest ih =>
    obtain ⟨k, v⟩ := p
    have hm' := hm
    simp only [storeWfFrom, Bool.and_eq_true, decide_eq_true_eq] at hm
    cases n with
    | nil =>
      have := h k
      simp [storeRead] at this
      exact absurd this hm.1.2
    | cons q r =>
      obtain ⟨j, w⟩ := q
      have hn' := hn
      simp only [storeWfFrom, Bool.and_eq_true, decide_eq_true_eq] at hn
      have hkj : k = j := by
        rcases Nat.lt_trichotomy k j with hlt | heq | hgt
        · have := h k
          rw [storeRead, if_pos rfl, storeRead, if_neg (by omega),
            storeRead_below d hn.2 (by omega)] at this
          exact absurd this hm.1.2
        · exact heq
        · have := h j
          rw [storeRead, if_neg (by omega), storeRead_below d hm.2 (by omega), storeRead,
            if_pos rfl] at this
          exact absurd this.symm hn.1.2
      subst hkj
      have hvw : v = w := by simpa [storeRead] using h k
      subst hvw
      have : rest = r := ih hm.2 hn.2 (by
        intro i
        by_cases hi : i = k
        · rw [storeRead_below d hm.2 (by omega), storeRead_below d hn.2 (by omega)]
        · simpa [storeRead, hi] using h i)
      rw [this]

end Store

/-! ## Memory -/

theorem Memory.wf_nil : Memory.wf [] = true := rfl

theorem RegStore.wf_nil : RegStore.wf [] = true := rfl

theorem Memory.read_write_same {m : Memory} (h : m.wf = true) (a : Nat) (b : Byte) :
    (m.write a b).read a = b := storeRead_storeWrite_same _ h a b

theorem Memory.read_write_other (m : Memory) {a c : Nat} (hc : c ≠ a) (b : Byte) :
    (m.write a b).read c = m.read c := storeRead_storeWrite_other _ m hc b

theorem Memory.wf_write {m : Memory} (h : m.wf = true) (a : Nat) (b : Byte) :
    (m.write a b).wf = true := storeWfFrom_storeWrite _ h (Nat.zero_le a) b

theorem Memory.wf_writeBytes (bs : List Byte) {m : Memory} (h : m.wf = true) (a : Nat) :
    (m.writeBytes a bs).wf = true := by
  induction bs generalizing m a with
  | nil => exact h
  | cons b bs ih => exact ih (Memory.wf_write h a b) (a + 1)

/-- A write of several bytes leaves every byte outside them alone. -/
theorem Memory.read_writeBytes_other (bs : List Byte) (m : Memory) {a c : Nat}
    (hc : ¬(a ≤ c ∧ c < a + bs.length)) : (m.writeBytes a bs).read c = m.read c := by
  induction bs generalizing m a with
  | nil => rfl
  | cons b bs ih =>
    rw [Memory.writeBytes, ih (m.write a b) (by simp at hc ⊢; omega)]
    exact Memory.read_write_other m (by simp at hc; omega) b

/-- A write of several bytes is read back byte by byte. -/
theorem Memory.read_writeBytes_same (bs : List Byte) {m : Memory} (h : m.wf = true) {a k : Nat}
    (hk : k < bs.length) : (m.writeBytes a bs).read (a + k) = bs[k] := by
  induction bs generalizing m a k with
  | nil => simp at hk
  | cons b bs ih =>
    rw [Memory.writeBytes]
    cases k with
    | zero =>
      rw [Memory.read_writeBytes_other bs (m.write a b) (by omega)]
      exact Memory.read_write_same h a b
    | succ k =>
      have := ih (Memory.wf_write h a b) (a := a + 1) (k := k) (by simpa using hk)
      simpa [Nat.add_assoc, Nat.add_comm 1 k] using this

theorem Memory.length_readBytes (m : Memory) (a n : Nat) : (m.readBytes a n).length = n := by
  induction n generalizing a with
  | zero => rfl
  | succ n ih => simp [Memory.readBytes, ih]

theorem Memory.getElem_readBytes (m : Memory) (a n k : Nat) (hk : k < (m.readBytes a n).length) :
    (m.readBytes a n)[k] = m.read (a + k) := by
  induction n generalizing a k with
  | zero => simp [Memory.readBytes] at hk
  | succ n ih =>
    cases k with
    | zero => rfl
    | succ k => simp [Memory.readBytes, ih, Nat.add_assoc, Nat.add_comm 1 k]

/-- Bytes written are the bytes read back. -/
theorem Memory.readBytes_writeBytes (bs : List Byte) {m : Memory} (h : m.wf = true) (a : Nat) :
    (m.writeBytes a bs).readBytes a bs.length = bs := by
  apply List.ext_getElem (Memory.length_readBytes _ _ _)
  intro k _ h2
  rw [Memory.getElem_readBytes, Memory.read_writeBytes_same bs h h2]

/-! ## Bytes and numbers -/

theorem length_littleBytes (n v : Nat) : (littleBytes n v).length = n := by
  induction n generalizing v with
  | zero => rfl
  | succ n ih => simp [littleBytes, ih]

theorem length_bytesOfNat (e : Bool) (n v : Nat) : (bytesOfNat e n v).length = n := by
  cases e <;> simp [bytesOfNat, length_littleBytes]

theorem littleNat_littleBytes (n v : Nat) (h : v < 256 ^ n) : littleNat (littleBytes n v) = v := by
  induction n generalizing v with
  | zero => simp at h; simp [littleBytes, littleNat, h]
  | succ n ih =>
    have : v / 256 < 256 ^ n := by
      rw [Nat.div_lt_iff_lt_mul (by omega), ← Nat.pow_succ]; exact h
    simp only [littleBytes, littleNat, ih _ this, BitVec.toNat_ofNat]
    omega

/-- In either byte order a number comes back from its bytes (R55, R267). -/
theorem natOfBytes_bytesOfNat (e : Bool) (n v : Nat) (h : v < 256 ^ n) :
    natOfBytes e (bytesOfNat e n v) = v := by
  cases e <;> simp [natOfBytes, bytesOfNat, littleNat_littleBytes n v h]

theorem littleNat_lt (bs : List Byte) : littleNat bs < 256 ^ bs.length := by
  induction bs with
  | nil => simp [littleNat]
  | cons b bs ih =>
    have := b.isLt
    simp only [littleNat, List.length_cons, Nat.pow_succ]
    omega

/-- Byte k of a little-endian number is byte k of the list (R55). -/
theorem littleNat_byte (bs : List Byte) (k : Nat) (hk : k < bs.length) :
    BitVec.ofNat 8 (littleNat bs / 256 ^ k) = bs[k] := by
  induction bs generalizing k with
  | nil => simp at hk
  | cons b bs ih =>
    cases k with
    | zero =>
      apply BitVec.eq_of_toNat_eq
      have := b.isLt
      simp [littleNat]
      omega
    | succ k =>
      have h2 : (b.toNat + 256 * littleNat bs) / 256 ^ (k + 1) = littleNat bs / 256 ^ k := by
        have h3 : (b.toNat + 256 * littleNat bs) / 256 = littleNat bs := by
          have := b.isLt
          omega
        rw [Nat.pow_succ, Nat.mul_comm (256 ^ k), ← Nat.div_div_eq_div_mul, h3]
      simp only [littleNat, h2, List.getElem_cons_succ]
      exact ih k (by simpa using hk)

/-- Byte k of the little-endian bytes of a number. -/
theorem getElem_littleBytes (n v k : Nat) (hk : k < (littleBytes n v).length) :
    (littleBytes n v)[k] = BitVec.ofNat 8 (v / 256 ^ k) := by
  induction n generalizing v k with
  | zero => simp [littleBytes] at hk
  | succ n ih =>
    cases k with
    | zero => simp [littleBytes]
    | succ k =>
      simp only [littleBytes, List.getElem_cons_succ, ih, Nat.pow_succ,
        Nat.div_div_eq_div_mul, Nat.mul_comm]

end Sys2Proof.Machine
end

