-- ==== Sys2Proof/Laws/Regs.lean ====
section
/-! SUPPORT. The laws of the registers: the keys of the register store are injective in the name, a
register written is read back and leaves every other one alone (R30), and so for the general
registers with their zero register (R31). -/

namespace Sys2Proof.Machine

theorem RegBase.ctorIdx_injective {a b : RegBase} (h : a.ctorIdx = b.ctorIdx) : a = b := by
  rw [← RegBase.ofNat_ctorIdx a, ← RegBase.ofNat_ctorIdx b, h]

theorem RegSuffix.ctorIdx_injective {a b : RegSuffix} (h : a.ctorIdx = b.ctorIdx) : a = b := by
  rw [← RegSuffix.ofNat_ctorIdx a, ← RegSuffix.ofNat_ctorIdx b, h]

theorem RegSuffix.ctorIdx_lt (a : RegSuffix) : a.ctorIdx < 8 := by cases a <;> decide

/-- Two names with one key are one name. -/
theorem regKey_injective {a b : RegName} (h : regKey a = regKey b) : a = b := by
  obtain ⟨ab, as, ai⟩ := a
  obtain ⟨bb, bs, bi⟩ := b
  simp only [regKey] at h
  have ha := ai.isLt
  have hb := bi.isLt
  have hsa := RegSuffix.ctorIdx_lt as
  have hsb := RegSuffix.ctorIdx_lt bs
  have hi : ai = bi := BitVec.eq_of_toNat_eq (by omega)
  have hs : as = bs := RegSuffix.ctorIdx_injective (by omega)
  have hr : ab = bb := RegBase.ctorIdx_injective (by omega)
  rw [hi, hs, hr]

/-- An alias names a register that is no alias. -/
theorem storageName_idem (r : RegName) : storageName (storageName r) = storageName r := by
  obtain ⟨b, s, i⟩ := r
  cases s <;> try rfl
  by_cases hb : b = .other <;> simp [storageName, hb]

theorem State.reg128_setReg128_same {s : State} (h : RegStore.wf s.regs = true) (r : RegName)
    (v : DWord) : (s.setReg128 r v).reg128 r = v :=
  storeRead_storeWrite_same _ h _ v

theorem State.reg128_setReg128_other (s : State) {r q : RegName}
    (hq : storageName q ≠ storageName r) (v : DWord) :
    (s.setReg128 r v).reg128 q = s.reg128 q :=
  storeRead_storeWrite_other _ s.regs (fun h => hq (regKey_injective h)) v

theorem State.reg_setReg128_other (s : State) {r q : RegName}
    (hq : storageName q ≠ storageName r) (v : DWord) : (s.setReg128 r v).reg q = s.reg q := by
  simp only [State.reg, State.reg128_setReg128_other s hq v]

theorem State.reg_setReg_same {s : State} (h : RegStore.wf s.regs = true) (r : RegName)
    (v : Word) : (s.setReg r v).reg r = v := by
  simp only [State.reg, State.setReg, State.reg128_setReg128_same h]
  simp

theorem State.reg128_setReg_other (s : State) {r q : RegName}
    (hq : storageName q ≠ storageName r) (v : Word) : (s.setReg r v).reg128 q = s.reg128 q :=
  State.reg128_setReg128_other s hq _

theorem State.reg_setReg_other (s : State) {r q : RegName}
    (hq : storageName q ≠ storageName r) (v : Word) : (s.setReg r v).reg q = s.reg q :=
  State.reg_setReg128_other s hq _

theorem RegStore.wf_setReg128 {s : State} (h : RegStore.wf s.regs = true) (r : RegName)
    (v : DWord) : RegStore.wf (s.setReg128 r v).regs = true :=
  storeWfFrom_storeWrite _ h (Nat.zero_le _) v

theorem RegStore.wf_setReg {s : State} (h : RegStore.wf s.regs = true) (r : RegName) (v : Word) :
    RegStore.wf (s.setReg r v).regs = true := RegStore.wf_setReg128 h r _

/-- A 64-bit write is a write of the storage whose low half is the value. -/
theorem State.setReg64_spec (s : State) (n : Nat) (r : RegName) (v : Word) :
    ∃ w : DWord, w.setWidth 64 = v ∧ s.setReg64 n r v = s.setReg128 r w := by
  unfold State.setReg64
  split
  · refine ⟨_, BitVec.eq_of_getLsbD_eq (fun i hi => ?_), rfl⟩
    rw [BitVec.getLsbD_setWidth, BitVec.getLsbD_append]
    simp [hi]
  · exact ⟨_, by simp, rfl⟩

theorem State.reg_setReg64_same {s : State} (h : RegStore.wf s.regs = true) (n : Nat) (r : RegName)
    (v : Word) : (s.setReg64 n r v).reg r = v := by
  obtain ⟨w, hw, he⟩ := State.setReg64_spec s n r v
  rw [he, State.reg, State.reg128_setReg128_same h, hw]

theorem State.reg128_setReg64_other (s : State) (n : Nat) {r q : RegName}
    (hq : storageName q ≠ storageName r) (v : Word) :
    (s.setReg64 n r v).reg128 q = s.reg128 q := by
  obtain ⟨w, -, he⟩ := State.setReg64_spec s n r v
  rw [he, State.reg128_setReg128_other s hq]

theorem State.reg_setReg64_other (s : State) (n : Nat) {r q : RegName}
    (hq : storageName q ≠ storageName r) (v : Word) : (s.setReg64 n r v).reg q = s.reg q := by
  simp only [State.reg, State.reg128_setReg64_other s n hq v]

theorem RegStore.wf_setReg64 {s : State} (h : RegStore.wf s.regs = true) (n : Nat) (r : RegName)
    (v : Word) : RegStore.wf (s.setReg64 n r v).regs = true := by
  obtain ⟨w, -, he⟩ := State.setReg64_spec s n r v
  rw [he]
  exact RegStore.wf_setReg128 h r w

/-- The stores of MSR, the redirected MSR and AT. -/
theorem State.reg_store64_same {s : State} (h : RegStore.wf s.regs = true) (r : RegName)
    (v : Word) : (s.store64 r v).reg r = v := State.reg_setReg64_same h _ r v

theorem State.reg128_store64_other (s : State) {r q : RegName}
    (hq : storageName q ≠ storageName r) (v : Word) : (s.store64 r v).reg128 q = s.reg128 q :=
  State.reg128_setReg64_other s _ hq v

theorem RegStore.wf_store64 {s : State} (h : RegStore.wf s.regs = true) (r : RegName) (v : Word) :
    RegStore.wf (s.store64 r v).regs = true := RegStore.wf_setReg64 h _ r v

/-- A general register written is read back; register 31 reads as zero (R31). -/
theorem State.x_setX_same (s : State) (t : BitVec 5) (v : Word) :
    (s.setX t v).x t = if t = 31#5 then 0#64 else v := by
  unfold State.setX State.x
  have := t.isLt
  by_cases h : t.toNat < 31
  · have ht : t ≠ 31#5 := by rintro rfl; simp at h
    simp [h, ht]
  · have ht : t = 31#5 := BitVec.eq_of_toNat_eq (by simp; omega)
    simp [ht]

theorem State.x_setX_other (s : State) {t k : BitVec 5} (hk : k ≠ t) (v : Word) :
    (s.setX t v).x k = s.x k := by
  unfold State.setX State.x
  have hne : t.toNat ≠ k.toNat := fun h => hk (BitVec.eq_of_toNat_eq h.symm)
  by_cases ht : t.toNat < 31 <;> by_cases hk' : k.toNat < 31 <;> simp [ht, hk', hne]

end Sys2Proof.Machine
end

