-- ==== Sys2Proof/Laws/Exceptions.lean ====
section
/-! SUPPORT. What the shared operations on exceptions do, said once: the Effective values depend on
the implementation, the registers and the level only; taking an exception writes the exception
registers of one level, process state, the program counter and the count of draws; an exception
return writes process state and the program counter. -/

namespace Sys2Proof.Machine

/-! ## What the Effective values depend on -/

theorem reg128_congr {s t : State} (h : t.regs = s.regs) (r : RegName) :
    t.reg128 r = s.reg128 r := by simp only [State.reg128, h]

theorem reg_congr {s t : State} (h : t.regs = s.regs) (r : RegName) : t.reg r = s.reg r := by
  simp only [State.reg, reg128_congr h]

theorem hcr_congr {s t : State} (h : t.regs = s.regs) (k : Nat) : t.hcr k = s.hcr k := by
  simp only [State.hcr, reg_congr h]

theorem effNV_congr {s t : State} (hc : t.cfg = s.cfg) (hr : t.regs = s.regs) :
    effNV t = effNV s := by
  cases s
  cases t
  simp only at hc hr
  subst hc hr
  rfl

theorem effNV_nv2_nv {s : State} (h : (effNV s).nv2 = true) : (effNV s).nv = true := by
  revert h
  cases h0 : (s.cfg.haveNV && s.cfg.el2Enabled && s.hcr 42) <;> cases h1 : effNV1Raw s <;>
    cases h2 : s.cfg.cuNV0NV1 <;> simp only [effNV, h0, h1, h2] <;> simp

/-- NV, or the choice `TrapOnly`, has an effect only on a PE with FEAT_NV (R2). -/
theorem effNV_haveNV {s : State} (h : (effNV s).nv = true ∨ (effNV s).trapOnly = true) :
    s.cfg.haveNV = true := by
  by_contra hc
  simp only [Bool.not_eq_true] at hc
  simp [effNV, effNV1Raw, hc] at h

/-- Under NV or `TrapOnly` EL2 is enabled (92 D21). -/
theorem effNV_el2Enabled {s : State} (h : (effNV s).nv = true ∨ (effNV s).trapOnly = true) :
    s.cfg.el2Enabled = true := by
  by_contra hn
  simp only [Bool.not_eq_true] at hn
  simp [effNV, effNV1Raw, hn] at h

theorem effNV_trapOnly {s : State} (h : (effNV s).trapOnly = true) :
    effNV s = ⟨false, false, false, true⟩ := by
  revert h
  cases h0 : (s.cfg.haveNV && s.cfg.el2Enabled && s.hcr 42) <;> cases h1 : effNV1Raw s <;>
    cases h2 : s.cfg.cuNV0NV1 <;> simp only [effNV, h0, h1, h2] <;> simp

/-! ## Taking an exception -/

@[simp] theorem farAfter_cfg (s : State) (l : EL) (u : FarUpdate) (t : State) :
    (farAfter s l u t).cfg = t.cfg := by cases u <;> simp [farAfter]
@[simp] theorem farAfter_gpr (s : State) (l : EL) (u : FarUpdate) (t : State) :
    (farAfter s l u t).gpr = t.gpr := by cases u <;> simp [farAfter]
@[simp] theorem farAfter_sec (s : State) (l : EL) (u : FarUpdate) (t : State) :
    (farAfter s l u t).sec = t.sec := by cases u <;> simp [farAfter]
@[simp] theorem farAfter_mem (s : State) (l : EL) (u : FarUpdate) (t : State) :
    (farAfter s l u t).mem = t.mem := by cases u <;> simp [farAfter]
@[simp] theorem farAfter_mappings (s : State) (l : EL) (u : FarUpdate) (t : State) :
    (farAfter s l u t).mappings = t.mappings := by cases u <;> simp [farAfter]
@[simp] theorem farAfter_tlbHeldNV (s : State) (l : EL) (u : FarUpdate) (t : State) :
    (farAfter s l u t).tlbHeldNV = t.tlbHeldNV := by cases u <;> simp [farAfter]
@[simp] theorem farAfter_dbg (s : State) (l : EL) (u : FarUpdate) (t : State) :
    (farAfter s l u t).dbg = t.dbg := by cases u <;> simp [farAfter]
@[simp] theorem farAfter_profiling (s : State) (l : EL) (u : FarUpdate) (t : State) :
    (farAfter s l u t).profiling = t.profiling := by cases u <;> simp [farAfter]
@[simp] theorem farAfter_events (s : State) (l : EL) (u : FarUpdate) (t : State) :
    (farAfter s l u t).events = t.events := by cases u <;> simp [farAfter]

@[simp] theorem takeException_cfg (x : Exc) (s : State) : (takeException x s).cfg = s.cfg := by
  simp [takeException]
@[simp] theorem takeException_gpr (x : Exc) (s : State) : (takeException x s).gpr = s.gpr := by
  simp [takeException]
@[simp] theorem takeException_sec (x : Exc) (s : State) : (takeException x s).sec = s.sec := by
  simp [takeException]
@[simp] theorem takeException_mem (x : Exc) (s : State) : (takeException x s).mem = s.mem := by
  simp [takeException]
@[simp] theorem takeException_mappings (x : Exc) (s : State) :
    (takeException x s).mappings = s.mappings := by simp [takeException]
@[simp] theorem takeException_tlbHeldNV (x : Exc) (s : State) :
    (takeException x s).tlbHeldNV = s.tlbHeldNV := by simp [takeException]
@[simp] theorem takeException_dbg (x : Exc) (s : State) :
    (takeException x s).dbg = s.dbg := by simp [takeException]
@[simp] theorem takeException_profiling (x : Exc) (s : State) :
    (takeException x s).profiling = s.profiling := by simp [takeException]
@[simp] theorem takeException_events (x : Exc) (s : State) :
    (takeException x s).events = s.events := by simp [takeException]
@[simp] theorem takeException_draw (x : Exc) (s : State) :
    (takeException x s).draw = s.draw + 8 := rfl
@[simp] theorem takeException_pc (x : Exc) (s : State) :
    (takeException x s).pc = vectorAfter s (excTarget x.target s.pstate.el) x.vector := rfl
@[simp] theorem takeException_pstate (x : Exc) (s : State) :
    (takeException x s).pstate = entryPState s (excTarget x.target s.pstate.el) := rfl
theorem takeException_el (x : Exc) (s : State) :
    (takeException x s).pstate.el = excTarget x.target s.pstate.el := rfl

/-- The register store after an entry: the writes of ESR, FAR, ELR and SPSR in this order. -/
theorem takeException_regs (x : Exc) (s : State) :
    (takeException x s).regs =
      (((farAfter s (excTarget x.target s.pstate.el) x.far
          (s.setReg64 (s.draw + 4) ⟨.ESR, elSuffix (excTarget x.target s.pstate.el), 0⟩
            (esrAfter s x.syndrome))).setReg64 (s.draw + 6)
          ⟨.ELR, elSuffix (excTarget x.target s.pstate.el), 0⟩ x.ret).setReg64 (s.draw + 7)
        ⟨.SPSR, elSuffix (excTarget x.target s.pstate.el), 0⟩
        (savedImage s (excTarget x.target s.pstate.el))).regs := rfl

theorem takeException_reg128 (x : Exc) (s : State) (r : RegName) :
    (takeException x s).reg128 r =
      (((farAfter s (excTarget x.target s.pstate.el) x.far
          (s.setReg64 (s.draw + 4) ⟨.ESR, elSuffix (excTarget x.target s.pstate.el), 0⟩
            (esrAfter s x.syndrome))).setReg64 (s.draw + 6)
          ⟨.ELR, elSuffix (excTarget x.target s.pstate.el), 0⟩ x.ret).setReg64 (s.draw + 7)
        ⟨.SPSR, elSuffix (excTarget x.target s.pstate.el), 0⟩
        (savedImage s (excTarget x.target s.pstate.el))).reg128 r :=
  reg128_congr (takeException_regs x s) r

/-- The suffix of the exception registers of a level is no alias. -/
theorem storageName_elSuffix (b : RegBase) (l : EL) :
    storageName ⟨b, elSuffix l, 0⟩ = ⟨b, elSuffix l, 0⟩ := by cases l <;> rfl

theorem farAfter_reg128_other (s : State) (l : EL) (u : FarUpdate) (t : State) {r : RegName}
    (h : storageName r ≠ ⟨.FAR, elSuffix l, 0⟩) : (farAfter s l u t).reg128 r = t.reg128 r := by
  have h' : storageName r ≠ storageName ⟨.FAR, elSuffix l, 0⟩ := by
    rwa [storageName_elSuffix]
  cases u
  · rfl
  · exact State.reg128_setReg64_other t _ h' _
  · exact State.reg128_setReg64_other t _ h' _

theorem farAfter_regs_wf (s : State) (l : EL) (u : FarUpdate) {t : State}
    (h : RegStore.wf t.regs = true) : RegStore.wf (farAfter s l u t).regs = true := by
  cases u
  · exact h
  · exact RegStore.wf_setReg64 h _ _ _
  · exact RegStore.wf_setReg64 h _ _ _

/-- Taking an exception keeps the canonical form of the register store. -/
theorem takeException_regs_wf (x : Exc) {s : State} (h : RegStore.wf s.regs = true) :
    RegStore.wf (takeException x s).regs = true := by
  rw [takeException_regs]
  exact RegStore.wf_setReg64 (RegStore.wf_setReg64
    (farAfter_regs_wf s _ _ (RegStore.wf_setReg64 h _ _ _)) _ _ _) _ _ _

/-- Only ESR, FAR, ELR and SPSR of the level it is taken to change. -/
theorem takeException_reg128_other (x : Exc) (s : State) {r : RegName}
    (h1 : storageName r ≠ ⟨.ESR, elSuffix (excTarget x.target s.pstate.el), 0⟩)
    (h2 : storageName r ≠ ⟨.FAR, elSuffix (excTarget x.target s.pstate.el), 0⟩ ∨ x.far = .keep)
    (h3 : storageName r ≠ ⟨.ELR, elSuffix (excTarget x.target s.pstate.el), 0⟩)
    (h4 : storageName r ≠ ⟨.SPSR, elSuffix (excTarget x.target s.pstate.el), 0⟩) :
    (takeException x s).reg128 r = s.reg128 r := by
  rw [takeException_reg128, State.reg128_setReg64_other _ _ (by rwa [storageName_elSuffix]),
    State.reg128_setReg64_other _ _ (by rwa [storageName_elSuffix])]
  have h5 : (s.setReg64 (s.draw + 4) ⟨.ESR, elSuffix (excTarget x.target s.pstate.el), 0⟩
      (esrAfter s x.syndrome)).reg128 r = s.reg128 r :=
    State.reg128_setReg64_other _ _ (by rwa [storageName_elSuffix]) _
  rcases h2 with h2 | h2
  · rw [farAfter_reg128_other _ _ _ _ h2, h5]
  · rw [h2]; exact h5

theorem RegName.base_ne {a b : RegBase} (h : a ≠ b) (p q : RegSuffix) (m n : BitVec 16) :
    (⟨a, p, m⟩ : RegName) ≠ ⟨b, q, n⟩ := fun e => h (congrArg RegName.base e)

/-- SPSR of the level receives the saved image (R204, R213). -/
theorem takeException_SPSR (x : Exc) {s : State} (h : RegStore.wf s.regs = true) {l : EL}
    {q : RegSuffix} (hl : excTarget x.target s.pstate.el = l) (hq : elSuffix l = q) :
    (takeException x s).reg ⟨.SPSR, q, 0⟩ = savedImage s l := by
  subst hl hq
  rw [reg_congr (takeException_regs x s)]
  exact State.reg_setReg64_same (RegStore.wf_setReg64
    (farAfter_regs_wf s _ _ (RegStore.wf_setReg64 h _ _ _)) _ _ _) _ _ _

/-- ELR of the level receives the return address (R213). -/
theorem takeException_ELR (x : Exc) {s : State} (h : RegStore.wf s.regs = true) {l : EL}
    {q : RegSuffix} (hl : excTarget x.target s.pstate.el = l) (hq : elSuffix l = q) :
    (takeException x s).reg ⟨.ELR, q, 0⟩ = x.ret := by
  subst hl hq
  rw [reg_congr (takeException_regs x s), State.reg_setReg64_other _ _ (by
    rw [storageName_elSuffix, storageName_elSuffix]; exact RegName.base_ne (by decide) _ _ _ _)]
  exact State.reg_setReg64_same (farAfter_regs_wf s _ _ (RegStore.wf_setReg64 h _ _ _)) _ _ _

/-- ESR of the level receives the syndrome (R200, R213). -/
theorem takeException_ESR (x : Exc) {s : State} (h : RegStore.wf s.regs = true) {l : EL}
    {q : RegSuffix} (hl : excTarget x.target s.pstate.el = l) (hq : elSuffix l = q) :
    (takeException x s).reg ⟨.ESR, q, 0⟩ = esrAfter s x.syndrome := by
  subst hl hq
  rw [reg_congr (takeException_regs x s), State.reg_setReg64_other _ _ (by
    rw [storageName_elSuffix, storageName_elSuffix]; exact RegName.base_ne (by decide) _ _ _ _),
    State.reg_setReg64_other _ _ (by
    rw [storageName_elSuffix, storageName_elSuffix]; exact RegName.base_ne (by decide) _ _ _ _),
    State.reg, farAfter_reg128_other _ _ _ _ (by
    rw [storageName_elSuffix]; exact RegName.base_ne (by decide) _ _ _ _)]
  exact State.reg_setReg64_same h _ _ _

/-- FAR of the level receives the address, if the exception reports one (R205, R231). -/
theorem takeException_FAR (x : Exc) {s : State} (h : RegStore.wf s.regs = true) {l : EL}
    {q : RegSuffix} (hl : excTarget x.target s.pstate.el = l) (hq : elSuffix l = q) {a : Word}
    (hf : x.far = .address a) :
    (takeException x s).reg ⟨.FAR, q, 0⟩ = a := by
  subst hl hq
  rw [reg_congr (takeException_regs x s), State.reg_setReg64_other _ _ (by
    rw [storageName_elSuffix, storageName_elSuffix]; exact RegName.base_ne (by decide) _ _ _ _),
    State.reg_setReg64_other _ _ (by
    rw [storageName_elSuffix, storageName_elSuffix]; exact RegName.base_ne (by decide) _ _ _ _),
    hf]
  exact State.reg_setReg64_same (RegStore.wf_setReg64 h _ _ _) _ _ _

theorem excTarget_of_lt {target cur : EL} (h : cur.num < target.num) :
    excTarget target cur = target := by simp [excTarget, h]

theorem excTarget_ne_EL0 (target cur : EL) : excTarget target cur ≠ .EL0 := by
  cases target <;> cases cur <;> decide

theorem EL.bits_ofBits (b : BitVec 2) : (EL.ofBits b).bits = b := by revert b; decide

theorem EL.ofBits_bits (e : EL) : EL.ofBits e.bits = e := by cases e <;> decide

theorem EL.num_ofBits (b : BitVec 2) : (EL.ofBits b).num = b.toNat := by revert b; decide

/-- The syndrome word is the sum R200 writes. -/
theorem esrValue_eq (ec : BitVec 6) (iss : BitVec 25) :
    esrValue ec iss = (ec.setWidth 64 <<< 26 ||| 1#64 <<< 25 ||| iss.setWidth 64) := by
  apply BitVec.eq_of_getLsbD_eq
  intro i hi
  simp only [esrValue, BitVec.getLsbD_append, BitVec.getLsbD_or, BitVec.getLsbD_shiftLeft,
    BitVec.getLsbD_setWidth, BitVec.getLsbD_one, BitVec.getLsbD_zero]
  by_cases h1 : i < 25
  · simp [h1, hi, show i < 26 by omega]
  · have hiss : iss.getLsbD i = false := BitVec.getLsbD_of_ge _ _ (by omega)
    by_cases h2 : i = 25
    · subst h2; simp
    · have h4 : ¬ i - 25 < 1 := by omega
      have h5 : i - 25 - 1 = i - 26 := by omega
      by_cases h3 : i < 32
      · simp [h1, h4, h5, hi, hiss, show ¬ i < 26 by omega, show i - 26 < 6 by omega,
          show i - 26 < 64 by omega, show ¬ i - 25 = 0 by omega]
      · have hec : ec.getLsbD (i - 26) = false := BitVec.getLsbD_of_ge _ _ (by omega)
        simp [h1, h4, h5, hi, hiss, hec, show ¬ i < 26 by omega, show ¬ i - 26 < 6 by omega,
          show ¬ i - 25 = 0 by omega]

/-- Entry to EL2 from EL1 with a stated syndrome is what R213 says of it. -/
theorem takeException_entersEL2 (x : Exc) {s : State} (hw : RegStore.wf s.regs = true)
    (he : s.pstate.el = .EL1) (ht : x.target = .EL2) {ec : BitVec 6} {iss : BitVec 25}
    (hs : x.syndrome = .value ec iss) (hr : x.ret = s.pc) (hv : x.vector = .standard) :
    EntersEL2 ec iss s (takeException x s) := by
  have hl : excTarget x.target s.pstate.el = .EL2 := by rw [ht, he]; rfl
  have hq : elSuffix .EL2 = .EL2 := rfl
  have hesr := takeException_ESR x hw hl hq
  rw [hs, esrAfter, esrValue_eq] at hesr
  have helr := takeException_ELR x hw hl hq
  rw [hr] at helr
  have hspsr := takeException_SPSR x hw hl hq
  rw [savedImage, if_neg (by simp)] at hspsr
  have hpc : (takeException x s).pc = s.reg ⟨.VBAR, .EL2, 0⟩ + 0x400#64 := by
    rw [takeException_pc, hl, hv]
    simp [vectorAfter, vectorOffset, he, EL.num, elSuffix]
  have hregs : KeepsRegsBut
      [⟨.ESR, .EL2, 0⟩, ⟨.FAR, .EL2, 0⟩, ⟨.ELR, .EL2, 0⟩, ⟨.SPSR, .EL2, 0⟩] s
      (takeException x s) := by
    intro r hr'
    simp only [List.mem_cons, List.not_mem_nil, or_false, not_or] at hr'
    exact takeException_reg128_other x s (by rw [hl]; exact hr'.1)
      (.inl (by rw [hl]; exact hr'.2.1)) (by rw [hl]; exact hr'.2.2.1)
      (by rw [hl]; exact hr'.2.2.2)
  have hgpr : KeepsGprsBut [] s (takeException x s) := by
    intro k _; simp only [State.x, takeException_gpr]
  have hmem : KeepsMemory s (takeException x s) := by intro a; rw [takeException_mem]
  exact ⟨hesr, helr, hspsr, hl, rfl, rfl, rfl, rfl, rfl, rfl, hpc, hregs, hgpr, hmem,
    takeException_tlbHeldNV x s, takeException_dbg x s, takeException_events x s,
    takeException_cfg x s, takeException_sec x s, takeException_mappings x s,
    takeException_profiling x s⟩

/-- A trap to EL2 from EL1 is the entry of R213 with FAR_EL2 as before. -/
theorem trapToEL2_traps (ec : BitVec 6) (iss : BitVec 25) {s : State}
    (hw : RegStore.wf s.regs = true) (he : s.pstate.el = .EL1) :
    TrapsToEL2 ec iss s (trapToEL2 ec iss s) := by
  refine ⟨takeException_entersEL2 _ hw he rfl rfl rfl rfl, ?_⟩
  have hl : excTarget .EL2 s.pstate.el = .EL2 := by rw [he]; rfl
  simp only [State.reg, trapToEL2]
  rw [takeException_reg128_other _ s (by rw [hl]; decide) (.inr rfl) (by rw [hl]; decide)
    (by rw [hl]; decide)]

/-- The Undefined Instruction exception at EL1 without HCR_EL2.TGE. -/
theorem undefinedInstr_atEL1 {s : State} (hw : RegStore.wf s.regs = true)
    (he : s.pstate.el = .EL1) (hg : effTGE s = false) : UndefinedAtEL1 s (undefinedInstr s) := by
  have hb : baseTarget s = .EL1 := by simp [baseTarget, he, hg]
  unfold undefinedInstr
  rw [hb]
  generalize hx : ({ target := .EL1, syndrome := .value 0#6 0#25, far := .keep, ret := s.pc } :
    Exc) = x
  have hl : excTarget x.target s.pstate.el = .EL1 := by rw [← hx, he]; rfl
  have hq : elSuffix .EL1 = .EL1 := rfl
  have hesr := takeException_ESR x hw hl hq
  have hz : esrAfter s x.syndrome = 1#64 <<< 25 := by rw [← hx]; simp only [esrAfter]; decide
  rw [hz] at hesr
  have helr := takeException_ELR x hw hl hq
  have hret : x.ret = s.pc := by rw [← hx]
  rw [hret] at helr
  have hspsr := takeException_SPSR x hw hl hq
  rw [savedImage, if_pos ⟨he, rfl⟩, spsrEL1M32] at hspsr
  have hm : (if (effNV s).nv && (!(effNV s).nv1 || (effNV s).nv2) then (0b10#2 : BitVec 2)
      else 0b01#2) =
      if (effNV s).nv ∧ ((effNV s).nv1 = false ∨ (effNV s).nv2) then 0b10#2 else 0b01#2 := by
    cases (effNV s).nv <;> cases (effNV s).nv1 <;> cases (effNV s).nv2 <;> rfl
  rw [hm] at hspsr
  have hfar : x.far = .keep := by rw [← hx]
  have hregs : KeepsRegsBut [⟨.ESR, .EL1, 0⟩, ⟨.ELR, .EL1, 0⟩, ⟨.SPSR, .EL1, 0⟩] s
      (takeException x s) := by
    intro r hr'
    simp only [List.mem_cons, List.not_mem_nil, or_false, not_or] at hr'
    exact takeException_reg128_other x s (by rw [hl]; exact hr'.1) (.inr hfar)
      (by rw [hl]; exact hr'.2.1) (by rw [hl]; exact hr'.2.2)
  have hgpr : KeepsGprsBut [] s (takeException x s) := by
    intro k _; simp only [State.x, takeException_gpr]
  have hmem : KeepsMemory s (takeException x s) := by intro a; rw [takeException_mem]
  exact ⟨hesr, helr, hspsr, hl, rfl, rfl, rfl, rfl, rfl, rfl, hregs, hgpr, hmem,
    takeException_tlbHeldNV x s, takeException_dbg x s, takeException_events x s,
    takeException_cfg x s, takeException_sec x s, takeException_mappings x s,
    takeException_profiling x s⟩

/-! ## Returning -/

/-- A legal return leaves process state as the image describes it. -/
theorem returnPState_restores {s : State} {v : Word} (h : legalReturn s v = true) :
    RestoresPState v (returnPState s v) := by
  rw [returnPState, if_pos h]
  exact ⟨EL.bits_ofBits _, rfl, rfl, rfl, rfl, rfl, rfl, rfl, rfl, rfl, rfl, rfl, rfl, rfl, rfl⟩

/-- An illegal return keeps the level and the stack pointer and sets PSTATE.IL (assumption 20). -/
theorem returnPState_illegal {s : State} {v : Word} (h : legalReturn s v = false) :
    (returnPState s v).el = s.pstate.el ∧ (returnPState s v).sp = s.pstate.sp ∧
      (returnPState s v).il = true ∧ RestoresFields v (returnPState s v) := by
  rw [returnPState, h]
  exact ⟨rfl, rfl, rfl, rfl, rfl, rfl, rfl, rfl, rfl, rfl, rfl, rfl, rfl, rfl, rfl⟩

/-- The two ways to say that an image is legal. -/
theorem legalReturn_iff (s : State) (v : Word) : legalReturn s v = true ↔ LegalImage s v := by
  have hn := EL.num_ofBits (v.extractLsb' 2 2)
  have h0 : EL.ofBits (v.extractLsb' 2 2) = .EL0 ↔ v.extractLsb' 2 2 = 0#2 := by
    generalize v.extractLsb' 2 2 = b; revert b; decide
  have hc : s.cfg.hasEL (EL.ofBits (v.extractLsb' 2 2)) = true ↔
      (v.extractLsb' 2 2 = 2#2 → s.cfg.el2Enabled = true) ∧
        (v.extractLsb' 2 2 = 3#2 → s.cfg.haveEL3 = true) := by
    generalize v.extractLsb' 2 2 = b
    rcases (by revert b; decide : b = 0#2 ∨ b = 1#2 ∨ b = 2#2 ∨ b = 3#2) with h | h | h | h <;>
      subst h <;> simp [EL.ofBits, Config.hasEL]
  simp only [legalReturn, LegalImage, Bool.and_eq_true, decide_eq_true_eq, hc, hn,
    Bool.not_eq_true', Bool.and_eq_false_imp, beq_iff_eq, h0]
  tauto

end Sys2Proof.Machine
end

