-- ==== Sys2Proof/Laws/Access.lean ====
section
/-! SUPPORT. What the shared operations of register accesses do, said once: the base architecture lets
an accessible access through, every outcome of the memory access of a transformed one and the bytes it
moves. -/

namespace Sys2Proof.Machine

/-! ## The base architecture -/

theorem baseGate_none {s : State} {r : RegName} {dir : Dir} (h : Accessible s r dir) (e : SysEnc)
    (rt : BitVec 5) : baseGate s e r rt dir = none := by
  obtain ⟨h1, h2, h3, h4⟩ := h
  have h5 : ¬(s.pstate.el ≠ .EL3 ∧ reachesEL3Trap s r dir = true ∧ el3TrapHigher s r dir = true) := by
    rintro ⟨ha, -, hb⟩
    rcases h2 with h2 | h2
    · exact ha h2
    · rw [h2] at hb; cases hb
  simp only [baseGate, h1, h3, h4, if_neg h5]
  simp

theorem baseRead_accessible {s : State} {r : RegName} (h : Accessible s r .read) (e : SysEnc)
    (rt : BitVec 5) :
    baseRead e r rt s = (((s.readReg r).2).setX rt (s.readReg r).1).advance := by
  rw [baseRead, baseGate_none h]

theorem baseWrite_accessible {s : State} {r : RegName} (h : Accessible s r .write) (e : SysEnc)
    (rt : BitVec 5) : baseWrite e r rt s = (s.writeReg r (s.x rt)).advance := by
  rw [baseWrite, baseGate_none h]

/-! ## General registers -/

theorem x_31 (s : State) : s.x 31#5 = 0#64 := rfl

/-- What MRS and the transformed MRS do to the general registers. -/
theorem loads_setX (s : State) (rt : BitVec 5) (v : Word) : Loads rt v s (s.setX rt v).advance := by
  refine ⟨?_, fun k hk => ?_⟩
  · rw [State.x_advance, State.x_setX_same]
  · rw [State.x_advance, State.x_setX_other s (by simpa using hk)]

/-! ## Watchpoints -/

/-- Looking for a watchpoint draws values and changes nothing else; a hit is a byte that a matching
watchpoint watches. -/
theorem vncrWatchpoint_spec (va : Word) (size : Nat) (dir : Dir) (ws : List Watchpoint)
    (s : State) :
    (∃ n, (vncrWatchpoint s va size dir ws).2 = s.drawn n) ∧
      ∀ a, (vncrWatchpoint s va size dir ws).1 = some a →
        ∃ w ∈ ws, watchpointMatches w va size dir = true ∧ a ∈ watchedBytes w va size := by
  induction ws generalizing s with
  | nil => exact ⟨⟨0, rfl⟩, fun a h => by cases h⟩
  | cons w ws ih =>
    unfold vncrWatchpoint
    split
    · rename_i hm
      simp only [Bool.and_eq_true] at hm
      refine ⟨⟨2, rfl⟩, fun a ha => ⟨w, List.mem_cons_self .., hm.1, ?_⟩⟩
      simp only [pickWatched] at ha
      split at ha
      · cases ha
      · rename_i b hb
        simp only [Option.some.injEq] at ha
        rw [hb, ← ha]; exact List.mem_cons_self ..
      · rename_i b bs _ hb
        simp only [Option.some.injEq] at ha
        rw [hb, ← ha, List.getD_eq_getElem _ _ (Nat.mod_lt _ (by simp))]
        exact List.getElem_mem _
    · obtain ⟨⟨n, hn⟩, h2⟩ := ih (s.drawn 2)
      refine ⟨⟨2 + n, ?_⟩, fun a ha => ?_⟩
      · rw [hn]; simp only [State.drawn, Nat.add_assoc]
      · obtain ⟨w', hw', h3⟩ := h2 a ha
        exact ⟨w', List.mem_cons_of_mem _ hw', h3⟩

/-- Without a watchpoint that matches there is no hit. -/
theorem vncrWatchpoint_none {va : Word} {size : Nat} {dir : Dir} {ws : List Watchpoint}
    (s : State) (h : ∀ w ∈ ws, watchpointMatches w va size dir = false) :
    (vncrWatchpoint s va size dir ws).1 = none := by
  rcases hx : (vncrWatchpoint s va size dir ws).1 with _ | a
  · rfl
  · obtain ⟨w, hw, hm, -⟩ := (vncrWatchpoint_spec va size dir ws s).2 a hx
    rw [h w hw] at hm; cases hm

theorem pickWatched_isSome (s : State) {bs : List Word} (h : bs ≠ []) :
    ∃ a, pickWatched s bs = some a := by
  match bs with
  | [] => exact absurd rfl h
  | [b] => exact ⟨b, rfl⟩
  | b :: c :: bs => exact ⟨_, rfl⟩

/-- A watchpoint that matches and is not linked gives a hit. -/
theorem vncrWatchpoint_some {va : Word} {size : Nat} {dir : Dir} {ws : List Watchpoint}
    (s : State) {w : Watchpoint} (hw : w ∈ ws) (hm : watchpointMatches w va size dir = true)
    (hl : w.linkedContext = false) : ∃ a, (vncrWatchpoint s va size dir ws).1 = some a := by
  induction ws generalizing s with
  | nil => cases hw
  | cons v ws ih =>
    unfold vncrWatchpoint
    split
    · rename_i hv
      simp only [Bool.and_eq_true, watchpointMatches, Bool.not_eq_true'] at hv
      obtain ⟨a, ha⟩ := pickWatched_isSome s (bs := watchedBytes v va size) (by
        intro h0; rw [h0] at hv; simp at hv)
      exact ⟨a, ha⟩
    · rename_i hv
      rcases List.mem_cons.1 hw with rfl | hw
      · rw [hm, hl] at hv; simp at hv
      · exact ih _ hw

/-! ## The memory access of a transformed access -/

/-- The access completes: only draws are used. -/
theorem vncrAccess_completes {s : State} {off : BitVec 12} {size : Nat} {dir : Dir} {pa : Nat}
    {wb : Bool} (h : AccessCompletes s off size dir pa wb) :
    ∃ n, vncrAccess s off size dir = .completes pa wb (s.drawn n) := by
  obtain ⟨⟨p, level, ht, hp⟩, hw⟩ := h
  obtain ⟨⟨n, hn⟩, -⟩ := vncrWatchpoint_spec (vncrAddress s off) size dir s.dbg.watchpoints s
  refine ⟨n, ?_⟩
  have hno : (vncrWatchpoint s (vncrAddress s off) size dir s.dbg.watchpoints).1.bind
      (fun a => watchpointEvent (s.drawn n) a dir) = none := by
    rcases hw with hw | hw | ⟨hw, hh⟩
    · rw [vncrWatchpoint_none s hw]; rfl
    · cases (vncrWatchpoint s (vncrAddress s off) size dir s.dbg.watchpoints).1 <;>
        simp [watchpointEvent, hw]
    · have hh' : ¬(s.dbg.hde = true ∧ s.dbg.haltingAllowed = true) := by simpa using hh
      cases (vncrWatchpoint s (vncrAddress s off) size dir s.dbg.watchpoints).1 <;>
        simp [watchpointEvent, hw, and_assoc, hh']
  unfold vncrAccess
  simp only [ht, hp, if_true]
  rw [← hn] at hno ⊢
  rcases hv : vncrWatchpoint s (vncrAddress s off) size dir s.dbg.watchpoints with ⟨hit, s1⟩
  rw [hv] at hno
  simp only at hno ⊢
  rw [hno]
  simp

theorem vncrAccess_fault {s : State} {off : BitVec 12} {size : Nat} {dir : Dir} {fsc : BitVec 6}
    (h : translate s (el2Regime s) false (vncrAddress s off) = .fault fsc) :
    vncrAccess s off size dir =
      .stops (faultToEL2 0x25#6 (issVncr dir fsc) (vncrAddress s off) s) := by
  simp only [vncrAccess, h]

theorem vncrAccess_denied {s : State} {off : BitVec 12} {size : Nat} {dir : Dir} {pa : Nat}
    {p : Perms} {level : BitVec 2} {wb ea : Bool}
    (h : translate s (el2Regime s) false (vncrAddress s off) = .ok pa p level wb ea)
    (hp : dataPermitted p true false dir = false) :
    vncrAccess s off size dir =
      .stops (faultToEL2 0x25#6 (issVncr dir (permissionFault level)) (vncrAddress s off) s) := by
  simp [vncrAccess, h, hp]

/-- What the profiling unit records is what `profiledAt` adds (R234, R235). -/
theorem profiledAt_eq (s : State) (off : BitVec 12) :
    profiledAt s off = s.record (profileRecord s off) := rfl

/-- A record of the profiling unit on top of an entry to EL2. -/
theorem entersEL2_profiled {ec : BitVec 6} {iss : BitVec 25} {s t : State} (off : BitVec 12)
    (h : EntersEL2 ec iss s t) :
    EntersEL2 ec iss (profiledAt s off) (t.record (profileRecord s off)) := by
  obtain ⟨h1, h2, h3, h4, h5, h6, h7, h8, h9, h10, h11, h12, h13, h14, h15, h16, h17, h18⟩ := h
  exact ⟨h1, h2, h3, h4, h5, h6, h7, h8, h9, h10, h11, h12, h13, h14, h15, h16,
    congrArg (· ++ profileRecord s off) h17, h18⟩

/-- The ISS of R209 in its fields. -/
theorem issVncr_eq (dir : Dir) (fsc : BitVec 6) : issVncr dir fsc = issOfVncrFault dir fsc := by
  cases dir <;> revert fsc <;> decide

/-! ## Bytes -/

theorem getElem_bytesOfNat (e : Bool) (n v k : Nat) (hk : k < (bytesOfNat e n v).length) :
    (bytesOfNat e n v)[k] = BitVec.ofNat 8 (v / 256 ^ (if e then n - 1 - k else k)) := by
  cases e
  · simp only [bytesOfNat] at hk ⊢
    exact getElem_littleBytes n v k hk
  · simp only [bytesOfNat, if_true] at hk ⊢
    rw [List.getElem_reverse, getElem_littleBytes, length_littleBytes]

theorem natOfBytes_byte (e : Bool) (bs : List Byte) (k : Nat) (hk : k < bs.length) :
    BitVec.ofNat 8 (natOfBytes e bs / 256 ^ k) =
      bs[if e then bs.length - 1 - k else k]'(by split <;> omega) := by
  cases e
  · simp only [natOfBytes]; exact littleNat_byte bs k hk
  · simp only [natOfBytes, if_true]
    rw [littleNat_byte bs.reverse k (by simpa using hk), List.getElem_reverse]

theorem extract_byte {w : Nat} (v : BitVec w) (k : Nat) :
    v.extractLsb' (8 * k) 8 = BitVec.ofNat 8 (v.toNat / 256 ^ k) := by
  apply BitVec.eq_of_toNat_eq
  rw [BitVec.extractLsb'_toNat, BitVec.toNat_ofNat, Nat.shiftRight_eq_div_pow, Nat.pow_mul]

end Sys2Proof.Machine
end

