-- ==== Sys2Proof/Laws/PerInstr.lean ====
section
/-! SUPPORT. What is proved of every instruction, one lemma per constructor: the word of the encoder
carries the fixed bits of its row of spec/opcode_table.json. -/

namespace Sys2Proof.Laws

/-- The fixed bits of an instruction's row: the row's mask and the value under it. -/
def fixedBits : Instr → BitVec 32 × BitVec 32
  | .mrs _ _ => (0xFFF00000#32, 0xD5300000#32)
  | .msr _ _ => (0xFFF00000#32, 0xD5100000#32)
  | .mrrs _ _ => (0xFFF00000#32, 0xD5700000#32)
  | .msrr _ _ => (0xFFF00000#32, 0xD5500000#32)
  | .at_S1E1R _ => (0xFFFFFFE0#32, 0xD5087800#32)
  | .at_S1E1W _ => (0xFFFFFFE0#32, 0xD5087820#32)
  | .at_S1E0R _ => (0xFFFFFFE0#32, 0xD5087840#32)
  | .at_S1E0W _ => (0xFFFFFFE0#32, 0xD5087860#32)
  | .at_S1E1RP _ => (0xFFFFFFE0#32, 0xD5087900#32)
  | .at_S1E1WP _ => (0xFFFFFFE0#32, 0xD5087920#32)
  | .at_S1E1A _ => (0xFFFFFFE0#32, 0xD5087940#32)
  | .at_S1E2R _ => (0xFFFFFFE0#32, 0xD50C7800#32)
  | .at_S1E2W _ => (0xFFFFFFE0#32, 0xD50C7820#32)
  | .at_S12E1R _ => (0xFFFFFFE0#32, 0xD50C7880#32)
  | .at_S12E1W _ => (0xFFFFFFE0#32, 0xD50C78A0#32)
  | .at_S12E0R _ => (0xFFFFFFE0#32, 0xD50C78C0#32)
  | .at_S12E0W _ => (0xFFFFFFE0#32, 0xD50C78E0#32)
  | .at_S1E2A _ => (0xFFFFFFE0#32, 0xD50C7940#32)
  | .tlbi_IPAS2E1IS _ => (0xFFFFFFE0#32, 0xD50C8020#32)
  | .tlbi_RIPAS2E1IS _ => (0xFFFFFFE0#32, 0xD50C8040#32)
  | .tlbi_IPAS2LE1IS _ => (0xFFFFFFE0#32, 0xD50C80A0#32)
  | .tlbi_RIPAS2LE1IS _ => (0xFFFFFFE0#32, 0xD50C80C0#32)
  | .tlbi_ALLE2OS _ => (0xFFFFFFE0#32, 0xD50C8100#32)
  | .tlbi_VAE2OS _ => (0xFFFFFFE0#32, 0xD50C8120#32)
  | .tlbi_ALLE1OS _ => (0xFFFFFFE0#32, 0xD50C8180#32)
  | .tlbi_VALE2OS _ => (0xFFFFFFE0#32, 0xD50C81A0#32)
  | .tlbi_VMALLS12E1OS _ => (0xFFFFFFE0#32, 0xD50C81C0#32)
  | .tlbi_RVAE2IS _ => (0xFFFFFFE0#32, 0xD50C8220#32)
  | .tlbi_RVALE2IS _ => (0xFFFFFFE0#32, 0xD50C82A0#32)
  | .tlbi_ALLE2IS _ => (0xFFFFFFE0#32, 0xD50C8300#32)
  | .tlbi_VAE2IS _ => (0xFFFFFFE0#32, 0xD50C8320#32)
  | .tlbi_ALLE1IS _ => (0xFFFFFFE0#32, 0xD50C8380#32)
  | .tlbi_VALE2IS _ => (0xFFFFFFE0#32, 0xD50C83A0#32)
  | .tlbi_VMALLS12E1IS _ => (0xFFFFFFE0#32, 0xD50C83C0#32)
  | .tlbi_IPAS2E1OS _ => (0xFFFFFFE0#32, 0xD50C8400#32)
  | .tlbi_IPAS2E1 _ => (0xFFFFFFE0#32, 0xD50C8420#32)
  | .tlbi_RIPAS2E1 _ => (0xFFFFFFE0#32, 0xD50C8440#32)
  | .tlbi_RIPAS2E1OS _ => (0xFFFFFFE0#32, 0xD50C8460#32)
  | .tlbi_IPAS2LE1OS _ => (0xFFFFFFE0#32, 0xD50C8480#32)
  | .tlbi_IPAS2LE1 _ => (0xFFFFFFE0#32, 0xD50C84A0#32)
  | .tlbi_RIPAS2LE1 _ => (0xFFFFFFE0#32, 0xD50C84C0#32)
  | .tlbi_RIPAS2LE1OS _ => (0xFFFFFFE0#32, 0xD50C84E0#32)
  | .tlbi_RVAE2OS _ => (0xFFFFFFE0#32, 0xD50C8520#32)
  | .tlbi_RVALE2OS _ => (0xFFFFFFE0#32, 0xD50C85A0#32)
  | .tlbi_RVAE2 _ => (0xFFFFFFE0#32, 0xD50C8620#32)
  | .tlbi_RVALE2 _ => (0xFFFFFFE0#32, 0xD50C86A0#32)
  | .tlbi_ALLE2 _ => (0xFFFFFFE0#32, 0xD50C8700#32)
  | .tlbi_VAE2 _ => (0xFFFFFFE0#32, 0xD50C8720#32)
  | .tlbi_ALLE1 _ => (0xFFFFFFE0#32, 0xD50C8780#32)
  | .tlbi_VALE2 _ => (0xFFFFFFE0#32, 0xD50C87A0#32)
  | .tlbi_VMALLS12E1 _ => (0xFFFFFFE0#32, 0xD50C87C0#32)
  | .tlbi_IPAS2E1ISNXS _ => (0xFFFFFFE0#32, 0xD50C9020#32)
  | .tlbi_RIPAS2E1ISNXS _ => (0xFFFFFFE0#32, 0xD50C9040#32)
  | .tlbi_IPAS2LE1ISNXS _ => (0xFFFFFFE0#32, 0xD50C90A0#32)
  | .tlbi_RIPAS2LE1ISNXS _ => (0xFFFFFFE0#32, 0xD50C90C0#32)
  | .tlbi_ALLE2OSNXS _ => (0xFFFFFFE0#32, 0xD50C9100#32)
  | .tlbi_VAE2OSNXS _ => (0xFFFFFFE0#32, 0xD50C9120#32)
  | .tlbi_ALLE1OSNXS _ => (0xFFFFFFE0#32, 0xD50C9180#32)
  | .tlbi_VALE2OSNXS _ => (0xFFFFFFE0#32, 0xD50C91A0#32)
  | .tlbi_VMALLS12E1OSNXS _ => (0xFFFFFFE0#32, 0xD50C91C0#32)
  | .tlbi_RVAE2ISNXS _ => (0xFFFFFFE0#32, 0xD50C9220#32)
  | .tlbi_RVALE2ISNXS _ => (0xFFFFFFE0#32, 0xD50C92A0#32)
  | .tlbi_ALLE2ISNXS _ => (0xFFFFFFE0#32, 0xD50C9300#32)
  | .tlbi_VAE2ISNXS _ => (0xFFFFFFE0#32, 0xD50C9320#32)
  | .tlbi_ALLE1ISNXS _ => (0xFFFFFFE0#32, 0xD50C9380#32)
  | .tlbi_VALE2ISNXS _ => (0xFFFFFFE0#32, 0xD50C93A0#32)
  | .tlbi_VMALLS12E1ISNXS _ => (0xFFFFFFE0#32, 0xD50C93C0#32)
  | .tlbi_IPAS2E1OSNXS _ => (0xFFFFFFE0#32, 0xD50C9400#32)
  | .tlbi_IPAS2E1NXS _ => (0xFFFFFFE0#32, 0xD50C9420#32)
  | .tlbi_RIPAS2E1NXS _ => (0xFFFFFFE0#32, 0xD50C9440#32)
  | .tlbi_RIPAS2E1OSNXS _ => (0xFFFFFFE0#32, 0xD50C9460#32)
  | .tlbi_IPAS2LE1OSNXS _ => (0xFFFFFFE0#32, 0xD50C9480#32)
  | .tlbi_IPAS2LE1NXS _ => (0xFFFFFFE0#32, 0xD50C94A0#32)
  | .tlbi_RIPAS2LE1NXS _ => (0xFFFFFFE0#32, 0xD50C94C0#32)
  | .tlbi_RIPAS2LE1OSNXS _ => (0xFFFFFFE0#32, 0xD50C94E0#32)
  | .tlbi_RVAE2OSNXS _ => (0xFFFFFFE0#32, 0xD50C9520#32)
  | .tlbi_RVALE2OSNXS _ => (0xFFFFFFE0#32, 0xD50C95A0#32)
  | .tlbi_RVAE2NXS _ => (0xFFFFFFE0#32, 0xD50C9620#32)
  | .tlbi_RVALE2NXS _ => (0xFFFFFFE0#32, 0xD50C96A0#32)
  | .tlbi_ALLE2NXS _ => (0xFFFFFFE0#32, 0xD50C9700#32)
  | .tlbi_VAE2NXS _ => (0xFFFFFFE0#32, 0xD50C9720#32)
  | .tlbi_ALLE1NXS _ => (0xFFFFFFE0#32, 0xD50C9780#32)
  | .tlbi_VALE2NXS _ => (0xFFFFFFE0#32, 0xD50C97A0#32)
  | .tlbi_VMALLS12E1NXS _ => (0xFFFFFFE0#32, 0xD50C97C0#32)
  | .eret => (0xFFFFFFFF#32, 0xD69F03E0#32)
  | .eretaa => (0xFFFFFFFF#32, 0xD69F0BFF#32)
  | .eretab => (0xFFFFFFFF#32, 0xD69F0FFF#32)
  | .smc _ => (0xFFE0001F#32, 0xD4000003#32)

/-- The word of an instruction agrees with its row on the row's fixed bits. -/
def Encoding.Statement (i : Instr) : Prop := encode i &&& (fixedBits i).1 = (fixedBits i).2

/-- A word of format SYS keeps the fixed bits of its base word (R73). -/
theorem sysWord_fixed {base : BitVec 32} (h : base &&& 0xFFFFFFE0#32 = base) (rt : BitVec 5) :
    sysWord base rt &&& 0xFFFFFFE0#32 = base := by
  have hr : rt.setWidth 32 &&& 0xFFFFFFE0#32 = 0#32 := by revert rt; decide
  have hd : ∀ a b c : BitVec 32, (a ||| b) &&& c = (a &&& c) ||| (b &&& c) := by
    intro a b c
    apply BitVec.eq_of_getLsbD_eq
    intro k _
    simp only [BitVec.getLsbD_and, BitVec.getLsbD_or, Bool.and_or_distrib_right]
  rw [sysWord, hd, h, hr, BitVec.or_zero]

/-- A word of format SYSREG or SYSREG128 keeps its upper twelve bits (R71, R72). -/
theorem sysRegWord_fixed (top : BitVec 12) (e : SysEnc) (rt : BitVec 5) :
    sysRegWord top e rt &&& 0xFFF00000#32 = top.setWidth 32 <<< 20 := by
  have hm : ∀ k, k < 32 → (0xFFF00000#32).getLsbD k = decide (20 ≤ k) := by decide
  apply BitVec.eq_of_getLsbD_eq
  intro k hk
  simp only [sysRegWord, BitVec.getLsbD_and, BitVec.getLsbD_append, BitVec.getLsbD_shiftLeft,
    BitVec.getLsbD_setWidth, hm k hk, hk]
  by_cases h : 20 ≤ k
  · have h1 : ¬k < 5 := by omega
    have h2 : ¬k - 5 < 3 := by omega
    have h3 : ¬k - 5 - 3 < 4 := by omega
    have h4 : ¬k - 5 - 3 - 4 < 4 := by omega
    have h5 : ¬k - 5 - 3 - 4 - 4 < 3 := by omega
    have h6 : ¬k - 5 - 3 - 4 - 4 - 3 < 1 := by omega
    have h7 : k - 5 - 3 - 4 - 4 - 3 - 1 = k - 20 := by omega
    have h8 : ¬k < 20 := by omega
    have h9 : k - 20 < 32 := by omega
    simp [h, h1, h2, h3, h4, h5, h6, h7, h8, h9]
  · have h8 : k < 20 := by omega
    simp [h, h8]

theorem Encoding.mrs (e : SysEnc) (rt : BitVec 5) : Encoding.Statement (.mrs e rt) :=
  sysRegWord_fixed _ e rt

theorem Encoding.msr (e : SysEnc) (rt : BitVec 5) : Encoding.Statement (.msr e rt) :=
  sysRegWord_fixed _ e rt

theorem Encoding.mrrs (e : SysEnc) (rt : BitVec 5) : Encoding.Statement (.mrrs e rt) :=
  sysRegWord_fixed _ e rt

theorem Encoding.msrr (e : SysEnc) (rt : BitVec 5) : Encoding.Statement (.msrr e rt) :=
  sysRegWord_fixed _ e rt

theorem Encoding.at_S1E1R (rt : BitVec 5) : Encoding.Statement (.at_S1E1R rt) :=
  sysWord_fixed (by decide) rt

theorem Encoding.at_S1E1W (rt : BitVec 5) : Encoding.Statement (.at_S1E1W rt) :=
  sysWord_fixed (by decide) rt

theorem Encoding.at_S1E0R (rt : BitVec 5) : Encoding.Statement (.at_S1E0R rt) :=
  sysWord_fixed (by decide) rt

theorem Encoding.at_S1E0W (rt : BitVec 5) : Encoding.Statement (.at_S1E0W rt) :=
  sysWord_fixed (by decide) rt

theorem Encoding.at_S1E1RP (rt : BitVec 5) : Encoding.Statement (.at_S1E1RP rt) :=
  sysWord_fixed (by decide) rt

theorem Encoding.at_S1E1WP (rt : BitVec 5) : Encoding.Statement (.at_S1E1WP rt) :=
  sysWord_fixed (by decide) rt

theorem Encoding.at_S1E1A (rt : BitVec 5) : Encoding.Statement (.at_S1E1A rt) :=
  sysWord_fixed (by decide) rt

theorem Encoding.at_S1E2R (rt : BitVec 5) : Encoding.Statement (.at_S1E2R rt) :=
  sysWord_fixed (by decide) rt

theorem Encoding.at_S1E2W (rt : BitVec 5) : Encoding.Statement (.at_S1E2W rt) :=
  sysWord_fixed (by decide) rt

theorem Encoding.at_S12E1R (rt : BitVec 5) : Encoding.Statement (.at_S12E1R rt) :=
  sysWord_fixed (by decide) rt

theorem Encoding.at_S12E1W (rt : BitVec 5) : Encoding.Statement (.at_S12E1W rt) :=
  sysWord_fixed (by decide) rt

theorem Encoding.at_S12E0R (rt : BitVec 5) : Encoding.Statement (.at_S12E0R rt) :=
  sysWord_fixed (by decide) rt

theorem Encoding.at_S12E0W (rt : BitVec 5) : Encoding.Statement (.at_S12E0W rt) :=
  sysWord_fixed (by decide) rt

theorem Encoding.at_S1E2A (rt : BitVec 5) : Encoding.Statement (.at_S1E2A rt) :=
  sysWord_fixed (by decide) rt

theorem Encoding.tlbi_IPAS2E1IS (rt : BitVec 5) : Encoding.Statement (.tlbi_IPAS2E1IS rt) :=
  sysWord_fixed (by decide) rt

theorem Encoding.tlbi_RIPAS2E1IS (rt : BitVec 5) : Encoding.Statement (.tlbi_RIPAS2E1IS rt) :=
  sysWord_fixed (by decide) rt

theorem Encoding.tlbi_IPAS2LE1IS (rt : BitVec 5) : Encoding.Statement (.tlbi_IPAS2LE1IS rt) :=
  sysWord_fixed (by decide) rt

theorem Encoding.tlbi_RIPAS2LE1IS (rt : BitVec 5) : Encoding.Statement (.tlbi_RIPAS2LE1IS rt) :=
  sysWord_fixed (by decide) rt

theorem Encoding.tlbi_ALLE2OS (rt : BitVec 5) : Encoding.Statement (.tlbi_ALLE2OS rt) :=
  sysWord_fixed (by decide) rt

theorem Encoding.tlbi_VAE2OS (rt : BitVec 5) : Encoding.Statement (.tlbi_VAE2OS rt) :=
  sysWord_fixed (by decide) rt

theorem Encoding.tlbi_ALLE1OS (rt : BitVec 5) : Encoding.Statement (.tlbi_ALLE1OS rt) :=
  sysWord_fixed (by decide) rt

theorem Encoding.tlbi_VALE2OS (rt : BitVec 5) : Encoding.Statement (.tlbi_VALE2OS rt) :=
  sysWord_fixed (by decide) rt

theorem Encoding.tlbi_VMALLS12E1OS (rt : BitVec 5) : Encoding.Statement (.tlbi_VMALLS12E1OS rt) :=
  sysWord_fixed (by decide) rt

theorem Encoding.tlbi_RVAE2IS (rt : BitVec 5) : Encoding.Statement (.tlbi_RVAE2IS rt) :=
  sysWord_fixed (by decide) rt

theorem Encoding.tlbi_RVALE2IS (rt : BitVec 5) : Encoding.Statement (.tlbi_RVALE2IS rt) :=
  sysWord_fixed (by decide) rt

theorem Encoding.tlbi_ALLE2IS (rt : BitVec 5) : Encoding.Statement (.tlbi_ALLE2IS rt) :=
  sysWord_fixed (by decide) rt

theorem Encoding.tlbi_VAE2IS (rt : BitVec 5) : Encoding.Statement (.tlbi_VAE2IS rt) :=
  sysWord_fixed (by decide) rt

theorem Encoding.tlbi_ALLE1IS (rt : BitVec 5) : Encoding.Statement (.tlbi_ALLE1IS rt) :=
  sysWord_fixed (by decide) rt

theorem Encoding.tlbi_VALE2IS (rt : BitVec 5) : Encoding.Statement (.tlbi_VALE2IS rt) :=
  sysWord_fixed (by decide) rt

theorem Encoding.tlbi_VMALLS12E1IS (rt : BitVec 5) : Encoding.Statement (.tlbi_VMALLS12E1IS rt) :=
  sysWord_fixed (by decide) rt

theorem Encoding.tlbi_IPAS2E1OS (rt : BitVec 5) : Encoding.Statement (.tlbi_IPAS2E1OS rt) :=
  sysWord_fixed (by decide) rt

theorem Encoding.tlbi_IPAS2E1 (rt : BitVec 5) : Encoding.Statement (.tlbi_IPAS2E1 rt) :=
  sysWord_fixed (by decide) rt

theorem Encoding.tlbi_RIPAS2E1 (rt : BitVec 5) : Encoding.Statement (.tlbi_RIPAS2E1 rt) :=
  sysWord_fixed (by decide) rt

theorem Encoding.tlbi_RIPAS2E1OS (rt : BitVec 5) : Encoding.Statement (.tlbi_RIPAS2E1OS rt) :=
  sysWord_fixed (by decide) rt

theorem Encoding.tlbi_IPAS2LE1OS (rt : BitVec 5) : Encoding.Statement (.tlbi_IPAS2LE1OS rt) :=
  sysWord_fixed (by decide) rt

theorem Encoding.tlbi_IPAS2LE1 (rt : BitVec 5) : Encoding.Statement (.tlbi_IPAS2LE1 rt) :=
  sysWord_fixed (by decide) rt

theorem Encoding.tlbi_RIPAS2LE1 (rt : BitVec 5) : Encoding.Statement (.tlbi_RIPAS2LE1 rt) :=
  sysWord_fixed (by decide) rt

theorem Encoding.tlbi_RIPAS2LE1OS (rt : BitVec 5) : Encoding.Statement (.tlbi_RIPAS2LE1OS rt) :=
  sysWord_fixed (by decide) rt

theorem Encoding.tlbi_RVAE2OS (rt : BitVec 5) : Encoding.Statement (.tlbi_RVAE2OS rt) :=
  sysWord_fixed (by decide) rt

theorem Encoding.tlbi_RVALE2OS (rt : BitVec 5) : Encoding.Statement (.tlbi_RVALE2OS rt) :=
  sysWord_fixed (by decide) rt

theorem Encoding.tlbi_RVAE2 (rt : BitVec 5) : Encoding.Statement (.tlbi_RVAE2 rt) :=
  sysWord_fixed (by decide) rt

theorem Encoding.tlbi_RVALE2 (rt : BitVec 5) : Encoding.Statement (.tlbi_RVALE2 rt) :=
  sysWord_fixed (by decide) rt

theorem Encoding.tlbi_ALLE2 (rt : BitVec 5) : Encoding.Statement (.tlbi_ALLE2 rt) :=
  sysWord_fixed (by decide) rt

theorem Encoding.tlbi_VAE2 (rt : BitVec 5) : Encoding.Statement (.tlbi_VAE2 rt) :=
  sysWord_fixed (by decide) rt

theorem Encoding.tlbi_ALLE1 (rt : BitVec 5) : Encoding.Statement (.tlbi_ALLE1 rt) :=
  sysWord_fixed (by decide) rt

theorem Encoding.tlbi_VALE2 (rt : BitVec 5) : Encoding.Statement (.tlbi_VALE2 rt) :=
  sysWord_fixed (by decide) rt

theorem Encoding.tlbi_VMALLS12E1 (rt : BitVec 5) : Encoding.Statement (.tlbi_VMALLS12E1 rt) :=
  sysWord_fixed (by decide) rt

theorem Encoding.tlbi_IPAS2E1ISNXS (rt : BitVec 5) : Encoding.Statement (.tlbi_IPAS2E1ISNXS rt) :=
  sysWord_fixed (by decide) rt

theorem Encoding.tlbi_RIPAS2E1ISNXS (rt : BitVec 5) : Encoding.Statement (.tlbi_RIPAS2E1ISNXS rt) :=
  sysWord_fixed (by decide) rt

theorem Encoding.tlbi_IPAS2LE1ISNXS (rt : BitVec 5) : Encoding.Statement (.tlbi_IPAS2LE1ISNXS rt) :=
  sysWord_fixed (by decide) rt

theorem Encoding.tlbi_RIPAS2LE1ISNXS (rt : BitVec 5) : Encoding.Statement (.tlbi_RIPAS2LE1ISNXS rt) :=
  sysWord_fixed (by decide) rt

theorem Encoding.tlbi_ALLE2OSNXS (rt : BitVec 5) : Encoding.Statement (.tlbi_ALLE2OSNXS rt) :=
  sysWord_fixed (by decide) rt

theorem Encoding.tlbi_VAE2OSNXS (rt : BitVec 5) : Encoding.Statement (.tlbi_VAE2OSNXS rt) :=
  sysWord_fixed (by decide) rt

theorem Encoding.tlbi_ALLE1OSNXS (rt : BitVec 5) : Encoding.Statement (.tlbi_ALLE1OSNXS rt) :=
  sysWord_fixed (by decide) rt

theorem Encoding.tlbi_VALE2OSNXS (rt : BitVec 5) : Encoding.Statement (.tlbi_VALE2OSNXS rt) :=
  sysWord_fixed (by decide) rt

theorem Encoding.tlbi_VMALLS12E1OSNXS (rt : BitVec 5) : Encoding.Statement (.tlbi_VMALLS12E1OSNXS rt) :=
  sysWord_fixed (by decide) rt

theorem Encoding.tlbi_RVAE2ISNXS (rt : BitVec 5) : Encoding.Statement (.tlbi_RVAE2ISNXS rt) :=
  sysWord_fixed (by decide) rt

theorem Encoding.tlbi_RVALE2ISNXS (rt : BitVec 5) : Encoding.Statement (.tlbi_RVALE2ISNXS rt) :=
  sysWord_fixed (by decide) rt

theorem Encoding.tlbi_ALLE2ISNXS (rt : BitVec 5) : Encoding.Statement (.tlbi_ALLE2ISNXS rt) :=
  sysWord_fixed (by decide) rt

theorem Encoding.tlbi_VAE2ISNXS (rt : BitVec 5) : Encoding.Statement (.tlbi_VAE2ISNXS rt) :=
  sysWord_fixed (by decide) rt

theorem Encoding.tlbi_ALLE1ISNXS (rt : BitVec 5) : Encoding.Statement (.tlbi_ALLE1ISNXS rt) :=
  sysWord_fixed (by decide) rt

theorem Encoding.tlbi_VALE2ISNXS (rt : BitVec 5) : Encoding.Statement (.tlbi_VALE2ISNXS rt) :=
  sysWord_fixed (by decide) rt

theorem Encoding.tlbi_VMALLS12E1ISNXS (rt : BitVec 5) : Encoding.Statement (.tlbi_VMALLS12E1ISNXS rt) :=
  sysWord_fixed (by decide) rt

theorem Encoding.tlbi_IPAS2E1OSNXS (rt : BitVec 5) : Encoding.Statement (.tlbi_IPAS2E1OSNXS rt) :=
  sysWord_fixed (by decide) rt

theorem Encoding.tlbi_IPAS2E1NXS (rt : BitVec 5) : Encoding.Statement (.tlbi_IPAS2E1NXS rt) :=
  sysWord_fixed (by decide) rt

theorem Encoding.tlbi_RIPAS2E1NXS (rt : BitVec 5) : Encoding.Statement (.tlbi_RIPAS2E1NXS rt) :=
  sysWord_fixed (by decide) rt

theorem Encoding.tlbi_RIPAS2E1OSNXS (rt : BitVec 5) : Encoding.Statement (.tlbi_RIPAS2E1OSNXS rt) :=
  sysWord_fixed (by decide) rt

theorem Encoding.tlbi_IPAS2LE1OSNXS (rt : BitVec 5) : Encoding.Statement (.tlbi_IPAS2LE1OSNXS rt) :=
  sysWord_fixed (by decide) rt

theorem Encoding.tlbi_IPAS2LE1NXS (rt : BitVec 5) : Encoding.Statement (.tlbi_IPAS2LE1NXS rt) :=
  sysWord_fixed (by decide) rt

theorem Encoding.tlbi_RIPAS2LE1NXS (rt : BitVec 5) : Encoding.Statement (.tlbi_RIPAS2LE1NXS rt) :=
  sysWord_fixed (by decide) rt

theorem Encoding.tlbi_RIPAS2LE1OSNXS (rt : BitVec 5) : Encoding.Statement (.tlbi_RIPAS2LE1OSNXS rt) :=
  sysWord_fixed (by decide) rt

theorem Encoding.tlbi_RVAE2OSNXS (rt : BitVec 5) : Encoding.Statement (.tlbi_RVAE2OSNXS rt) :=
  sysWord_fixed (by decide) rt

theorem Encoding.tlbi_RVALE2OSNXS (rt : BitVec 5) : Encoding.Statement (.tlbi_RVALE2OSNXS rt) :=
  sysWord_fixed (by decide) rt

theorem Encoding.tlbi_RVAE2NXS (rt : BitVec 5) : Encoding.Statement (.tlbi_RVAE2NXS rt) :=
  sysWord_fixed (by decide) rt

theorem Encoding.tlbi_RVALE2NXS (rt : BitVec 5) : Encoding.Statement (.tlbi_RVALE2NXS rt) :=
  sysWord_fixed (by decide) rt

theorem Encoding.tlbi_ALLE2NXS (rt : BitVec 5) : Encoding.Statement (.tlbi_ALLE2NXS rt) :=
  sysWord_fixed (by decide) rt

theorem Encoding.tlbi_VAE2NXS (rt : BitVec 5) : Encoding.Statement (.tlbi_VAE2NXS rt) :=
  sysWord_fixed (by decide) rt

theorem Encoding.tlbi_ALLE1NXS (rt : BitVec 5) : Encoding.Statement (.tlbi_ALLE1NXS rt) :=
  sysWord_fixed (by decide) rt

theorem Encoding.tlbi_VALE2NXS (rt : BitVec 5) : Encoding.Statement (.tlbi_VALE2NXS rt) :=
  sysWord_fixed (by decide) rt

theorem Encoding.tlbi_VMALLS12E1NXS (rt : BitVec 5) : Encoding.Statement (.tlbi_VMALLS12E1NXS rt) :=
  sysWord_fixed (by decide) rt

theorem Encoding.eret : Encoding.Statement .eret := rfl

theorem Encoding.eretaa : Encoding.Statement .eretaa := rfl

theorem Encoding.eretab : Encoding.Statement .eretab := rfl

theorem Encoding.smc (imm : BitVec 16) : Encoding.Statement (.smc imm) := by
  have hm : ∀ k, k < 32 → (0xFFE0001F#32).getLsbD k = decide (21 ≤ k ∨ k < 5) := by decide
  have hv : ∀ k, k < 32 → (0xD4000003#32).getLsbD k =
      if k < 5 then (3#5).getLsbD k else if 21 ≤ k then (0x6A0#11).getLsbD (k - 21) else false := by
    decide
  apply BitVec.eq_of_getLsbD_eq
  intro k hk
  simp only [encode, fixedBits, BitVec.getLsbD_and, BitVec.getLsbD_append, hm k hk, hv k hk]
  by_cases h1 : k < 5
  · simp [h1]
  · by_cases h2 : 21 ≤ k
    · have h3 : ¬k - 5 < 16 := by omega
      have h4 : k - 5 - 16 = k - 21 := by omega
      simp only [h1, h2, h3, h4, decide_true, Bool.and_true, if_true, if_false, or_false]
    · have h3 : k - 5 < 16 := by omega
      simp [h1, h2]

end Sys2Proof.Laws
end

