-- ==== Sys2Proof/Laws/Table.lean ====
section
/-! SUPPORT. What the classifier needs to know of Table D8-120 (R81, R82): no register of the table is
redirected, an event stream register of its column, or CurrentEL; the four registers that NV1 traps
are in the column of NV1 and in no other. -/

namespace Sys2Proof.Machine

theorem vncrRows_facts (k : Row298) : ∀ row ∈ vncrRows k, ∀ nv1 : Bool,
    redirectTarget (row.name nv1) = none ∧ eventStreamReg (row.name nv1) nv1 = false ∧
      row.name nv1 ≠ ⟨.CurrentEL, .none, 0⟩ ∧ (nv1 = false → nv1Set (row.name nv1) = false) := by
  cases k <;> decide +kernel

theorem vncrFamily_facts {r : RegName} (hf : (vncrFamily r.base).isSome = true) (nv1 : Bool) :
    redirectTarget r = none ∧ eventStreamReg r nv1 = false ∧ r ≠ ⟨.CurrentEL, .none, 0⟩ ∧
      nv1Set r = false := by
  obtain ⟨b, s, i⟩ := r
  have hb : b = .ICH_LR ∨ b = .ICH_AP0R ∨ b = .ICH_AP1R ∨ b = .AMEVCNTVOFF0 ∨
      b = .AMEVCNTVOFF1 := by
    unfold vncrFamily at hf
    split at hf <;> simp_all
  rcases hb with h | h | h | h | h <;> subst h <;>
    simp [redirectTarget, eventStreamReg, nv1Set]

/-- What a register that has an offset is not. -/
theorem vncrOffset_facts {k : Row298} {r : RegName} {nv1 : Bool} {off : BitVec 12}
    (h : vncrOffset k r nv1 = some off) :
    redirectTarget r = none ∧ eventStreamReg r nv1 = false ∧ r ≠ ⟨.CurrentEL, .none, 0⟩ ∧
      (nv1 = false → nv1Set r = false) := by
  unfold vncrOffset at h
  split at h
  · rename_i first count hf
    obtain ⟨h1, h2, h3, h4⟩ := vncrFamily_facts (by rw [hf]; rfl) nv1
    exact ⟨h1, h2, h3, fun _ => h4⟩
  · split at h
    · rename_i row hr
      have he := List.find?_some hr
      simp only [beq_iff_eq] at he
      have h4 := vncrRows_facts k row (List.mem_of_find?_eq_some hr) nv1
      rwa [he] at h4
    · cases h

/-- A register of the table that NV does not trap is accessible from EL1 (R163: its name ends in _EL1 or
_EL0). -/
theorem vncrOffset_minEL {k : Row298} {r : RegName} {nv1 : Bool} {off : BitVec 12}
    (h : vncrOffset k r nv1 = some off) (hn : nvTrapSet r = false) : (minEL r).num ≤ 1 := by
  have hrows : ∀ row ∈ vncrRows k, ∀ nv1 : Bool,
      nvTrapSet (row.name nv1) = false → (minEL (row.name nv1)).num ≤ 1 := by
    cases k <;> decide +kernel
  unfold vncrOffset at h
  split at h
  · rename_i first count hf
    split at h
    · rename_i hs
      obtain ⟨b, s, i⟩ := r
      obtain ⟨rfl, -⟩ := hs
      simp only [vncrFamily] at hf
      split at hf
      all_goals simp_all [nvTrapSet, namedEL2, nvExempt]
    · cases h
  · split at h
    · rename_i row hr
      have he := List.find?_some hr
      simp only [beq_iff_eq] at he
      have := hrows row (List.mem_of_find?_eq_some hr) nv1
      rw [he] at this
      exact this hn
    · cases h

/-- The four registers of R124 have offsets while NV1 is 1. -/
theorem vncrOffset_nv1Set {k : Row298} {r : RegName} (h : nv1Set r = true) :
    ∃ off, vncrOffset k r true = some off := by
  simp only [nv1Set, Bool.or_eq_true, beq_iff_eq] at h
  rcases h with ((h | h) | h) | h <;> subst h <;> cases k <;> exact Option.isSome_iff_exists.1 (by decide +kernel)

/-- A register that NV traps is none of the four that NV1 traps. -/
theorem nvTrapSet_nv1Set {r : RegName} (h : nvTrapSet r = true) : nv1Set r = false := by
  by_contra hc
  simp only [nv1Set, Bool.not_eq_false, Bool.or_eq_true, beq_iff_eq] at hc
  rcases hc with ((rfl | rfl) | rfl) | rfl <;> exact absurd h (by decide)

end Sys2Proof.Machine
end

