-- ==== Sys2Proof/Laws/Units.lean ====
section
/-! SUPPORT. What the other shared operations do, said once: the views of a register, the reading of
descriptors, the fetch, the write of PAR_EL1 and the invalidation of a TLB. Each changes the count of
draws at most, but for what its lemma names. -/

namespace Sys2Proof.Machine

/-- Reading a register draws a value or none and changes nothing else. -/
theorem readReg_spec (s : State) (r : RegName) : ∃ n, (s.readReg r).2 = s.drawn n := by
  unfold State.readReg
  split <;> try exact ⟨0, rfl⟩
  split
  · exact ⟨1, rfl⟩
  · exact ⟨0, rfl⟩

/-- A 64-bit write of a register changes its storage, PSTATE.PAN, PSTATE.UAO, `TLBHeldNV` and the
count of draws at most. -/
theorem writeReg_spec (s : State) (r : RegName) (v : Word) :
    ∃ rs pan uao held n, s.writeReg r v =
        { s with regs := rs, pstate := { s.pstate with pan := pan, uao := uao },
                 tlbHeldNV := held, draw := n } ∧
      (s.tlbHeldNV.Nodup → held.Nodup) ∧
      (RegStore.wf s.regs = true → RegStore.wf rs = true) ∧
      ∀ q, storageName q ≠ storageName r → (s.writeReg r v).reg128 q = s.reg128 q := by
  have hold : ∀ p (l : List (Bool × Bool)), l.Nodup → (holdPair p l).Nodup := by
    intro p l hl
    unfold holdPair
    split
    · exact hl
    · rename_i hp
      rw [List.nodup_append]
      refine ⟨hl, List.nodup_singleton _, fun a ha b hb => ?_⟩
      rw [List.mem_singleton] at hb
      rintro rfl
      exact hp (hb ▸ ha)
  unfold State.writeReg
  split
  · exact ⟨_, _, _, _, _, rfl, id, id, fun q _ => rfl⟩
  · exact ⟨_, _, _, _, _, rfl, id, id, fun q _ => rfl⟩
  · exact ⟨_, _, _, _, _, rfl, id, id, fun q _ => rfl⟩
  · exact ⟨_, _, _, _, _, rfl, id, id, fun q _ => rfl⟩
  · simp only
    split
    · exact ⟨_, _, _, _, _, rfl, id, fun h => RegStore.wf_setReg h r v,
        fun q hq => State.reg128_setReg_other s hq v⟩
    · exact ⟨_, _, _, _, _, rfl, fun h => hold _ _ h, fun h => RegStore.wf_setReg h r v,
        fun q hq => State.reg128_setReg_other s hq v⟩
  · refine ⟨(s.store64 r v).regs, s.pstate.pan, s.pstate.uao, s.tlbHeldNV, (s.store64 r v).draw, ?_, id,
      fun h => RegStore.wf_store64 h r v, fun q hq => State.reg128_store64_other s hq v⟩
    unfold State.store64 State.setReg64
    split <;> rfl

/-- With no pair held there is none to use. -/
@[simp] theorem usableHeldNV_nil {s : State} (h : s.tlbHeldNV = []) : usableHeldNV s = [] := by
  unfold usableHeldNV
  rw [h, ite_self]

/-- A pair that may be used is one that is held, on a PE with FEAT_NV and with EL2 enabled. -/
theorem mem_usableHeldNV {s : State} {p : Bool × Bool} (h : p ∈ usableHeldNV s) :
    p ∈ s.tlbHeldNV ∧ s.cfg.haveNV = true ∧ s.cfg.el2Enabled = true := by
  unfold usableHeldNV at h
  split at h
  · rename_i hc
    rw [Bool.and_eq_true] at hc
    exact ⟨h, hc⟩
  · exact absurd h List.not_mem_nil

/-- Reading descriptors of a regime draws a value or none. -/
theorem regimeReading_spec (s : State) (g : Regime) : ∃ n, (regimeReading s g).2 = s.drawn n := by
  unfold regimeReading
  split
  · unfold descriptorReading
    split
    · exact ⟨0, rfl⟩
    · exact ⟨1, rfl⟩
  · exact ⟨0, rfl⟩

/-- A fetch that gives a word gives the one memory holds at `fetchAddress`, and draws values at
most. -/
theorem fetchWord_word {s t : State} {w : BitVec 32} (h : fetchWord s = .word w t) :
    w = wordAt s.mem (fetchAddress s) ∧ ∃ n, t = s.drawn n := by
  unfold fetchWord at h
  unfold fetchAddress
  split at h
  · cases h
    exact ⟨rfl, 0, rfl⟩
  · rename_i g hg
    obtain ⟨n, hn⟩ := regimeReading_spec s g
    rcases hr : regimeReading s g with ⟨nv1, u⟩
    rw [hr] at hn h
    simp only at hn h ⊢
    subst hn
    split at h
    · cases h
    · rename_i ht
      split at h
      · cases h
      · split at h
        · cases h
        · cases h
          exact ⟨rfl, _, by simp only [State.drawn, Nat.add_assoc]; rfl⟩

/-- An exception of the base architecture goes no lower than the current level. -/
theorem excTarget_baseTarget (s : State) : excTarget (baseTarget s) s.pstate.el = baseTarget s := by
  unfold baseTarget
  cases s.pstate.el <;> cases effTGE s <;> rfl

/-- The Instruction Abort writes the exception registers of the level it is taken to, and nothing else
but process state, the program counter and the count of draws. -/
theorem instructionAbort_spec {s : State} (hw : RegStore.wf s.regs = true) (he : s.events = [])
    (fsc : BitVec 6) : AbortsFetch fsc (baseTarget s) s (instructionAbort s fsc) := by
  have ht := excTarget_baseTarget s
  unfold instructionAbort
  rw [ht]
  generalize baseTarget s = l at ht ⊢
  obtain ⟨x, hx⟩ : ∃ x : Exc, x =
      { target := l,
        syndrome := .value (if s.pstate.el.num < l.num then 0x20#6 else 0x21#6) (fsc.setWidth 25),
        far := .address s.pc, ret := s.pc } := ⟨_, rfl⟩
  have hl : excTarget x.target s.pstate.el = l := by rw [hx]; exact ht
  have hs : esrAfter s x.syndrome =
      ((if s.pstate.el.num < l.num then 0x20#64 else 0x21#64) <<< 26 ||| 1#64 <<< 25 |||
        fsc.setWidth 64) := by
    rw [hx]
    simp only [esrAfter]
    have hw : (fsc.setWidth 25).setWidth 64 = fsc.setWidth 64 :=
      BitVec.eq_of_toNat_eq (by simp only [BitVec.toNat_setWidth]; omega)
    rw [esrValue_eq, hw]
    congr 3
    split <;> rfl
  have hf : x.far = .address s.pc := by rw [hx]
  have hr : x.ret = s.pc := by rw [hx]
  show AbortsFetch fsc l s (takeException _ s)
  rw [← hx]
  clear hx
  have hesr := (takeException_ESR x hw hl (q := elSuffix l) rfl).trans hs
  have hfar := takeException_FAR x hw hl (q := elSuffix l) rfl hf
  have helr := (takeException_ELR x hw hl (q := elSuffix l) rfl).trans hr
  refine ⟨hl, hesr, hfar, helr, fun r hr => ?_, fun k _ => by simp only [State.x, takeException_gpr],
    fun a => by rw [takeException_mem], takeException_tlbHeldNV x s, takeException_dbg x s,
    (takeException_events x s).trans he, takeException_cfg x s, takeException_sec x s,
    takeException_mappings x s, takeException_profiling x s⟩
  simp only [List.mem_cons, List.not_mem_nil, or_false, not_or] at hr
  exact takeException_reg128_other x s (by rw [hl]; exact hr.1) (.inl (by rw [hl]; exact hr.2.1))
    (by rw [hl]; exact hr.2.2.1) (by rw [hl]; exact hr.2.2.2)

/-- The pairs a draw keeps are among the pairs there were. -/
theorem keepPairs_sublist (w : Word) (i : Nat) (l : List (Bool × Bool)) :
    (keepPairs w i l).Sublist l := by
  induction l generalizing i with
  | nil => exact List.Sublist.refl _
  | cons p ps ih =>
    unfold keepPairs
    split
    · exact (ih _).cons_cons p
    · exact (ih _).cons p

/-- A TLBI operation takes pairs from `TLBHeldNV` at most. -/
theorem invalidate_spec (s : State) :
    ∃ held n, invalidate s = { s with tlbHeldNV := held, draw := n } ∧
      held.Sublist s.tlbHeldNV := by
  unfold invalidate
  split
  · exact ⟨s.tlbHeldNV, s.draw, rfl, List.Sublist.refl _⟩
  · rename_i p ps hl
    exact ⟨_, _, rfl, by rw [hl]; exact keepPairs_sublist _ _ _⟩

/-- An untrapped AT operation writes PAR_EL1 and draws values. -/
theorem translateToPAR_spec (s : State) (op : AtOp) (va : Word) :
    ∃ v n, translateToPAR s op va = (s.setReg128 ⟨.PAR, .EL1, 0⟩ v).drawn n := by
  obtain ⟨n, hn⟩ := regimeReading_spec s (atRegime s op)
  unfold translateToPAR
  rcases hr : regimeReading s (atRegime s op) with ⟨nv1, u⟩
  rw [hr] at hn
  simp only at hn
  subst hn
  obtain ⟨w, -, he⟩ := State.setReg64_spec ((s.drawn n).drawn 1) ((s.drawn n).drawn 1).draw
    ⟨.PAR, .EL1, 0⟩ (putBit (s.drawn n).free 0
      (stage1Faults s op nv1 va || (atStage2 op && (s.drawn n).free.getLsbD 0)))
  refine ⟨w, n + 2, ?_⟩
  simp only [State.store64, he]
  rfl

end Sys2Proof.Machine
end

