-- ==== Sys2Proof/Tests/Slice0.lean ====
section
/-! SUPPORT. The author's tests. Expected words, syndromes and values come from spec/95_test_vectors.md,
spec/30_encoding.md and spec/opcode_table.json, whose vectors each docstring names. The second half
shows, for every statement that has hypotheses, a state and operands that meet them all. -/

namespace Sys2Proof.Tests

open Sys2Proof Sys2Proof.Machine

set_option Elab.async false

/-! ## Helpers -/

/-- The stored NV, NV1, NV2 of the vectors: HCR_EL2 bits 42, 43 and 45 (R10). -/
def nv100 : Word := 0x0000040000000000#64
def nv110 : Word := 0x00000C0000000000#64
def nv101 : Word := 0x0000240000000000#64
def nv111 : Word := 0x00002C0000000000#64
def nv010 : Word := 0x0000080000000000#64

/-- The common start of Part C: EL1h, masked, code at 0x40000000, the VNCR page at 0x80010000. -/
def guest (hcr : Word) : State :=
  (((({ State.reset with
        pc := 0x40000000#64
        pstate := { PState.reset with el := .EL1 } } : State).setReg
      ⟨.VBAR, .EL2, 0⟩ 0x48000000#64).setReg ⟨.VNCR, .EL2, 0⟩ 0x80010000#64).setReg
    ⟨.SPSR, .EL1, 0⟩ 0x3C9#64).setReg ⟨.HCR, .EL2, 0⟩ hcr

/-- The same at another Exception level. -/
def guestAt (l : EL) (hcr : Word) : State :=
  { guest hcr with pstate := { PState.reset with el := l, sp := decide (l ≠ .EL0) } }

/-- The same on another implementation. -/
def guestOn (f : Config → Config) (hcr : Word) : State := { guest hcr with cfg := f resetConfig }

/-- What holds of the next state of an outcome. -/
def nextIs (r : Res) (p : State → Bool) : Bool :=
  match r with
  | .next t => p t
  | .fault _ => false
  | .refused _ => false

/-- One step that fetches this word. -/
def runs (s : State) (w : BitVec 32) (p : State → Bool) : Bool :=
  nextIs (step (s.withFetchWord 32 w.toNat)) p

/-- Trapped to EL2 with this ESR_EL2 (R200, R213; the common end of Part C). -/
def trapped (esr : Word) (t : State) : Bool :=
  t.reg ⟨.ESR, .EL2, 0⟩ == esr && t.reg ⟨.ELR, .EL2, 0⟩ == 0x40000000#64 &&
    t.reg ⟨.SPSR, .EL2, 0⟩ == 0x3C5#64 && t.reg ⟨.FAR, .EL2, 0⟩ == 0#64 &&
    t.pc == 0x48000400#64 && t.pstate.el == .EL2 && t.pstate.sp && t.pstate.d && t.pstate.a &&
    t.pstate.i && t.pstate.f

/-- Each word traps from its guest with its syndrome. -/
def allTrap (l : List (Word × BitVec 32 × Word)) : Bool :=
  l.all (fun p => runs (guest p.1) p.2.1 (trapped p.2.2))

/-! ## WellFormed: every check has an ill-formed term that it refuses -/

theorem test_wellFormed_mrrs_odd :
    wellFormed (.mrrs ⟨1#1, 4#3, 2#4, 1#4, 0#3⟩ 3#5) = false := by decide

theorem test_wellFormed_msrr_31 :
    wellFormed (.msrr ⟨1#1, 4#3, 2#4, 1#4, 0#3⟩ 31#5) = false := by decide

theorem test_wellFormed_mrrs_even :
    wellFormed (.mrrs ⟨1#1, 4#3, 2#4, 1#4, 0#3⟩ 30#5) = true := by decide

/-! ## Decoding: words written out from R71 to R75, R78 and R79 -/

/-- Whether a word decodes to this instruction. -/
def reads (w : BitVec 32) (i : Instr) : Bool :=
  match decodeWord w with
  | .ok j => i == j
  | .error _ => false

/-- R71: top byte and bits 23..20 by the format, then o0, op1, CRn, CRm, op2, Rt. -/
theorem test_decode_sysreg :
    reads 0xD538425E#32 (.mrs ⟨1#1, 0#3, 4#4, 2#4, 2#3⟩ 30#5) ∧
      reads 0xD5300240#32 (.mrs ⟨0#1, 0#3, 0#4, 2#4, 2#3⟩ 0#5) ∧
      reads 0xD518D0E6#32 (.msr ⟨1#1, 0#3, 13#4, 0#4, 7#3⟩ 6#5) ∧
      reads 0xD57C2102#32 (.mrrs ⟨1#1, 4#3, 2#4, 1#4, 0#3⟩ 2#5) ∧
      reads 0xD55C2102#32 (.msrr ⟨1#1, 4#3, 2#4, 1#4, 0#3⟩ 2#5) := by decide +kernel

/-- R78: the words of the AT operations with Rt 1 to 14. -/
theorem test_decode_at :
    List.all
      [ (0xD5087801#32, Instr.at_S1E1R 1#5),
        (0xD5087822#32, Instr.at_S1E1W 2#5),
        (0xD5087843#32, Instr.at_S1E0R 3#5),
        (0xD5087864#32, Instr.at_S1E0W 4#5),
        (0xD5087905#32, Instr.at_S1E1RP 5#5),
        (0xD5087926#32, Instr.at_S1E1WP 6#5),
        (0xD5087947#32, Instr.at_S1E1A 7#5),
        (0xD50C7808#32, Instr.at_S1E2R 8#5),
        (0xD50C7829#32, Instr.at_S1E2W 9#5),
        (0xD50C788A#32, Instr.at_S12E1R 10#5),
        (0xD50C78AB#32, Instr.at_S12E1W 11#5),
        (0xD50C78CC#32, Instr.at_S12E0R 12#5),
        (0xD50C78ED#32, Instr.at_S12E0W 13#5),
        (0xD50C794E#32, Instr.at_S1E2A 14#5) ]
      (fun p => reads p.1 p.2) = true := by decide +kernel

/-- R79: the words of the TLBI operations, Rt counting down from 31. -/
theorem test_decode_tlbi :
    List.all
      [ (0xD50C803F#32, Instr.tlbi_IPAS2E1IS 31#5),
        (0xD50C805E#32, Instr.tlbi_RIPAS2E1IS 30#5),
        (0xD50C80BD#32, Instr.tlbi_IPAS2LE1IS 29#5),
        (0xD50C80DC#32, Instr.tlbi_RIPAS2LE1IS 28#5),
        (0xD50C811B#32, Instr.tlbi_ALLE2OS 27#5),
        (0xD50C813A#32, Instr.tlbi_VAE2OS 26#5),
        (0xD50C8199#32, Instr.tlbi_ALLE1OS 25#5),
        (0xD50C81B8#32, Instr.tlbi_VALE2OS 24#5),
        (0xD50C81D7#32, Instr.tlbi_VMALLS12E1OS 23#5),
        (0xD50C8236#32, Instr.tlbi_RVAE2IS 22#5),
        (0xD50C82B5#32, Instr.tlbi_RVALE2IS 21#5),
        (0xD50C8314#32, Instr.tlbi_ALLE2IS 20#5),
        (0xD50C8333#32, Instr.tlbi_VAE2IS 19#5),
        (0xD50C8392#32, Instr.tlbi_ALLE1IS 18#5),
        (0xD50C83B1#32, Instr.tlbi_VALE2IS 17#5),
        (0xD50C83D0#32, Instr.tlbi_VMALLS12E1IS 16#5),
        (0xD50C840F#32, Instr.tlbi_IPAS2E1OS 15#5),
        (0xD50C842E#32, Instr.tlbi_IPAS2E1 14#5),
        (0xD50C844D#32, Instr.tlbi_RIPAS2E1 13#5),
        (0xD50C846C#32, Instr.tlbi_RIPAS2E1OS 12#5),
        (0xD50C848B#32, Instr.tlbi_IPAS2LE1OS 11#5),
        (0xD50C84AA#32, Instr.tlbi_IPAS2LE1 10#5),
        (0xD50C84C9#32, Instr.tlbi_RIPAS2LE1 9#5),
        (0xD50C84E8#32, Instr.tlbi_RIPAS2LE1OS 8#5),
        (0xD50C8527#32, Instr.tlbi_RVAE2OS 7#5),
        (0xD50C85A6#32, Instr.tlbi_RVALE2OS 6#5),
        (0xD50C8625#32, Instr.tlbi_RVAE2 5#5),
        (0xD50C86A4#32, Instr.tlbi_RVALE2 4#5),
        (0xD50C8703#32, Instr.tlbi_ALLE2 3#5),
        (0xD50C8722#32, Instr.tlbi_VAE2 2#5),
        (0xD50C8781#32, Instr.tlbi_ALLE1 1#5),
        (0xD50C87A0#32, Instr.tlbi_VALE2 0#5),
        (0xD50C87DF#32, Instr.tlbi_VMALLS12E1 31#5) ]
      (fun p => reads p.1 p.2) = true := by decide +kernel

/-- R79: the nXS words, Rt counting up from 0. -/
theorem test_decode_tlbi_nxs :
    List.all
      [ (0xD50C9020#32, Instr.tlbi_IPAS2E1ISNXS 0#5),
        (0xD50C9041#32, Instr.tlbi_RIPAS2E1ISNXS 1#5),
        (0xD50C90A2#32, Instr.tlbi_IPAS2LE1ISNXS 2#5),
        (0xD50C90C3#32, Instr.tlbi_RIPAS2LE1ISNXS 3#5),
        (0xD50C9104#32, Instr.tlbi_ALLE2OSNXS 4#5),
        (0xD50C9125#32, Instr.tlbi_VAE2OSNXS 5#5),
        (0xD50C9186#32, Instr.tlbi_ALLE1OSNXS 6#5),
        (0xD50C91A7#32, Instr.tlbi_VALE2OSNXS 7#5),
        (0xD50C91C8#32, Instr.tlbi_VMALLS12E1OSNXS 8#5),
        (0xD50C9229#32, Instr.tlbi_RVAE2ISNXS 9#5),
        (0xD50C92AA#32, Instr.tlbi_RVALE2ISNXS 10#5),
        (0xD50C930B#32, Instr.tlbi_ALLE2ISNXS 11#5),
        (0xD50C932C#32, Instr.tlbi_VAE2ISNXS 12#5),
        (0xD50C938D#32, Instr.tlbi_ALLE1ISNXS 13#5),
        (0xD50C93AE#32, Instr.tlbi_VALE2ISNXS 14#5),
        (0xD50C93CF#32, Instr.tlbi_VMALLS12E1ISNXS 15#5),
        (0xD50C9410#32, Instr.tlbi_IPAS2E1OSNXS 16#5),
        (0xD50C9431#32, Instr.tlbi_IPAS2E1NXS 17#5),
        (0xD50C9452#32, Instr.tlbi_RIPAS2E1NXS 18#5),
        (0xD50C9473#32, Instr.tlbi_RIPAS2E1OSNXS 19#5),
        (0xD50C9494#32, Instr.tlbi_IPAS2LE1OSNXS 20#5),
        (0xD50C94B5#32, Instr.tlbi_IPAS2LE1NXS 21#5),
        (0xD50C94D6#32, Instr.tlbi_RIPAS2LE1NXS 22#5),
        (0xD50C94F7#32, Instr.tlbi_RIPAS2LE1OSNXS 23#5),
        (0xD50C9538#32, Instr.tlbi_RVAE2OSNXS 24#5),
        (0xD50C95B9#32, Instr.tlbi_RVALE2OSNXS 25#5),
        (0xD50C963A#32, Instr.tlbi_RVAE2NXS 26#5),
        (0xD50C96BB#32, Instr.tlbi_RVALE2NXS 27#5),
        (0xD50C971C#32, Instr.tlbi_ALLE2NXS 28#5),
        (0xD50C973D#32, Instr.tlbi_VAE2NXS 29#5),
        (0xD50C979E#32, Instr.tlbi_ALLE1NXS 30#5),
        (0xD50C97BF#32, Instr.tlbi_VALE2NXS 31#5),
        (0xD50C97C0#32, Instr.tlbi_VMALLS12E1NXS 0#5) ]
      (fun p => reads p.1 p.2) = true := by decide +kernel

/-- R74, R75. -/
theorem test_decode_eret_smc :
    reads 0xD69F03E0#32 .eret ∧ reads 0xD69F0BFF#32 .eretaa ∧ reads 0xD69F0FFF#32 .eretab ∧
      reads 0xD4000243#32 (.smc 0x12#16) ∧ reads 0xD41FFFE3#32 (.smc 0xFFFF#16) := by
  decide +kernel

/-- 00_scope.md section 7: TLBI VMALLE1 (B3.21), HVC and a word of zeros are not of the table. -/
theorem test_decode_refuses :
    [0xD508871F#32, 0xD4000002#32, 0x00000000#32, 0xD69F03E1#32].all
      (fun w => match decodeWord w with | .ok _ => false | .error e => e == .notAdmitted) = true := by
  decide +kernel

/-! ## Vectors of spec/95_test_vectors.md -/

/-- B1: the resolved triple from the stored bits. -/
theorem test_B1_resolution :
    effNV (guest 0#64) = ⟨false, false, false, false⟩ ∧
      effNV (guest nv100) = ⟨true, false, false, false⟩ ∧
      effNV (guest nv111) = ⟨true, true, true, false⟩ ∧
      effNV (guest 0x0000200000000000#64) = ⟨false, false, false, false⟩ ∧
      effNV (guestOn (fun c => { c with idAA64MMFR4 := 0xE000000#64 }) nv110) =
        ⟨true, false, false, false⟩ ∧
      effNV (guestOn (fun c => { c with idAA64MMFR4 := 0x100000#64 }) nv100) =
        ⟨true, false, true, false⟩ ∧
      effNV (guestOn (fun c => { c with idAA64MMFR4 := 0x100000#64 }) nv010) =
        ⟨true, true, true, false⟩ ∧
      effNV (guestOn (fun c => { c with cuNV0NV1 := .asNV00 }) 0x0000280000000000#64) =
        ⟨false, false, false, false⟩ ∧
      effNV (guestOn (fun c => { c with cuNV0NV1 := .trapOnly }) 0x0000280000000000#64) =
        ⟨false, false, false, true⟩ ∧
      effNV (guestOn (fun c => { c with el2Enabled := false }) nv111) =
        ⟨false, false, false, false⟩ := by decide +kernel

/-- B2.1 to B2.13, B2.20 to B2.23, B2.34 and B5.9: register accesses that NV or NV1 traps. -/
theorem test_B2_traps :
    allTrap
      [ (nv100, 0xD53C1101#32, 0x62310423#64), (nv100, 0xD51C1100#32, 0x62310402#64),
        (nv100, 0xD53CC003#32, 0x62313061#64), (nv100, 0xD51C2207#32, 0x623108E4#64),
        (nv100, 0xD51D1000#32, 0x62314400#64), (nv100, 0xD53DE325#32, 0x623378A7#64),
        (nv100, 0xD51DE245#32, 0x623578A4#64), (nv100, 0xD53C4300#32, 0x62311007#64),
        (nv100, 0xD51C4362#32, 0x62371046#64), (nv100, 0xD53C4104#32, 0x62311083#64),
        (nv110, 0xD518C000#32, 0x62303000#64), (nv110, 0xD5384022#32, 0x62321041#64),
        (nv110, 0xD5384002#32, 0x62301041#64), (nv110, 0xD518D0E6#32, 0x623E34C0#64),
        (nv100, 0xD53C111F#32, 0x623107E3#64), (nv100, 0xD53C4001#32, 0x62311021#64) ] =
      true := by decide +kernel

/-- B2.15, B2.17 and B2.18: CurrentEL. -/
theorem test_B2_currentEL :
    runs (guest nv100) 0xD5384240#32 (fun t => t.x 0#5 == 0x8#64 && t.pc == 0x40000004#64) ∧
      runs (guest 0#64) 0xD5384240#32 (fun t => t.x 0#5 == 0x4#64) ∧
      runs (guestAt .EL2 nv100) 0xD5384240#32 (fun t => t.x 0#5 == 0x8#64) := by decide +kernel

/-- B2.5, and B2.28 with the choice TrapOnly: UNDEFINED at EL1, the exception to EL1. -/
theorem test_B2_undefined :
    runs (guest nv100) 0xD53E4100#32
        (fun t => t.pstate.el == .EL1 && t.reg ⟨.SPSR, .EL1, 0⟩ == 0x3C9#64) ∧
      runs (guestOn (fun c => { c with cuNV0NV1 := .trapOnly }) nv010) 0xD53C1101#32
        (fun t => t.pstate.el == .EL1 && t.reg ⟨.SPSR, .EL1, 0⟩ == 0x3C5#64) := by decide +kernel

/-- B3.1 to B3.7, B3.12 to B3.20: AT and TLBI operations that NV traps. -/
theorem test_B3_traps :
    allTrap
      [ (nv100, 0xD50C7803#32, 0x62111C70#64), (nv100, 0xD50C7820#32, 0x62131C10#64),
        (nv100, 0xD50C7881#32, 0x62191C30#64), (nv100, 0xD50C78A2#32, 0x621B1C50#64),
        (nv100, 0xD50C78C4#32, 0x621D1C90#64), (nv100, 0xD50C78E5#32, 0x621F1CB0#64),
        (nv111, 0xD50C7946#32, 0x62151CD2#64), (nv100, 0xD50C871F#32, 0x621123EE#64),
        (nv100, 0xD50C8720#32, 0x6213200E#64), (nv100, 0xD50C879F#32, 0x621923EE#64),
        (nv100, 0xD50C8022#32, 0x62132040#64), (nv100, 0xD50C8623#32, 0x6213206C#64),
        (nv100, 0xD50C811F#32, 0x621123E2#64), (nv100, 0xD50C971F#32, 0x621127EE#64) ] =
      true := by decide +kernel

/-- B3.23 and P4 (SMC under TSC), P2 (ERET), and ERETAA and ERETAB with the ISS of R203. -/
theorem test_B3_smc_eret :
    allTrap
      [ (0x0000040000080000#64, 0xD4000243#32, 0x5E000012#64), (nv101, 0xD69F03E0#32, 0x6A000000#64),
        (nv100, 0xD69F0BFF#32, 0x6A000002#64), (nv100, 0xD69F0FFF#32, 0x6A000003#64) ] =
      true := by decide +kernel

/-- B4.1 to B4.8: HCR_EL2.AT (bit 44) traps the operations of EL1, whatever NV is. -/
theorem test_B4_traps :
    allTrap
      [ (0x0000100000000000#64, 0xD5087802#32, 0x62101C50#64),
        (0x0000100000000000#64, 0xD5087823#32, 0x62121C70#64),
        (0x0000100000000000#64, 0xD5087904#32, 0x62101C92#64),
        (0x0000100000000000#64, 0xD5087925#32, 0x62121CB2#64),
        (0x0000100000000000#64, 0xD5087946#32, 0x62141CD2#64),
        (0x00003C0000000000#64, 0xD5087802#32, 0x62101C50#64) ] = true := by decide +kernel

/-- B5.1, B5.2 and B5.6: redirection to the EL1 register. -/
theorem test_B5_redirection :
    runs (guest nv101) 0xD53C4001#32 (fun t => t.x 1#5 == 0x3C9#64) ∧
      runs ((guest nv101).setX 0#5 0x40001000#64) 0xD51C4020#32
        (fun t => t.reg ⟨.ELR, .EL1, 0⟩ == 0x40001000#64 && t.reg ⟨.ELR, .EL2, 0⟩ == 0#64) ∧
      runs ((guest nv111).setReg ⟨.ELR, .EL1, 0⟩ 0x77#64) 0xD53C4020#32
        (fun t => t.x 0#5 == 0x77#64) := by decide +kernel

/-- B6a: the address formula. -/
theorem test_B6a_address :
    [ (0x0000000080010000#64, 0xFF8#12, 0x0000000080010FF8#64),
      (0x0100000000000000#64, 0x078#12, 0xFF00000000000078#64),
      (0x01FFFFFFFFFFF000#64, 0x0B0#12, 0xFFFFFFFFFFFFF0B0#64),
      (0x00FFFFFFFFFFF000#64, 0x020#12, 0x00FFFFFFFFFFF020#64),
      (0xFE00000080010000#64, 0x020#12, 0x0000000080010020#64),
      (0x0000000080010FFF#64, 0x020#12, 0x0000000080010020#64) ].all
      (fun p => vncrAddress ((guest 0#64).setReg ⟨.VNCR, .EL2, 0⟩ p.1) p.2.1 == p.2.2) = true := by
  decide +kernel

/-- How a word that accesses a register is classified. -/
def outcomeOf (s : State) (w : BitVec 32) : Option AccessOutcome :=
  match decodeWord w with
  | .ok (.mrs e _) => some (classifyRegAccess s (sysRegName s.cfg e) .read false)
  | .ok (.msr e _) => some (classifyRegAccess s (sysRegName s.cfg e) .write false)
  | _ => none

/-- B6b: classification under NV2, with the indexed rows. -/
theorem test_B6b_outcomes :
    [ (nv101, 0xD53C1101#32, .transform 0x078#12), (nv111, 0xD51C2101#32, .transform 0x020#12),
      (nv101, 0xD51D1000#32, .transform 0x110#12), (nv111, 0xD51D1000#32, .trapEL2 0x18#6),
      (nv101, 0xD5181000#32, .unchanged), (nv111, 0xD5181000#32, .transform 0x110#12),
      (nv111, 0xD518C000#32, .transform 0x250#12), (nv111, 0xD5384022#32, .transform 0x230#12),
      (nv101, 0xD53C4104#32, .transform 0x240#12), (nv111, 0xD53BE325#32, .transform 0x170#12),
      (nv101, 0xD53BE325#32, .unchanged), (nv101, 0xD5300240#32, .transform 0x158#12),
      (nv101, 0xD53CE100#32, .trapEL2 0x18#6), (nv101, 0xD53DE100#32, .trapEL2 0x18#6),
      (nv111, 0xD538E100#32, .unchanged), (nv101, 0xD53CC003#32, .trapEL2 0x18#6),
      (nv101, 0xD538A240#32, .transform 0x298#12), (nv111, 0xD538A240#32, .transform 0x290#12),
      (nv101, 0xD53CA240#32, .trapEL2 0x18#6), (nv111, 0xD53CA240#32, .transform 0x298#12),
      (nv101, 0xD5384240#32, .readAs 0x8#64), (nv101, 0xD53E4100#32, .unchanged),
      (nv101, 0xD53CCDE0#32, .transform 0x478#12), (nv111, 0xD53CC860#32, .transform 0x498#12),
      (nv101, 0xD53CD800#32, .transform 0xA00#12), (nv111, 0xD53CDBE0#32, .transform 0xAF8#12) ].all
      (fun p => outcomeOf (guest p.1) p.2.1 == some p.2.2) = true := by decide +kernel

/-- B6b.9 and B6b.21: another trap keeps its place, HCR_EL2.TVM (bit 26) and MDCR_EL2.TDA (bit 9). -/
theorem test_B6b_other_traps :
    outcomeOf (guest (nv111 ||| 0x4000000#64)) 0xD5181000#32 = some .unchanged ∧
      runs (guest (nv111 ||| 0x4000000#64)) 0xD5181000#32 (trapped 0x62300400#64) ∧
      outcomeOf ((guest nv101).setReg ⟨.MDCR, .EL2, 0⟩ 0x200#64) 0xD5300240#32 =
        some .unchanged := by decide +kernel

/-- Guest memory with these bytes at 0x80010020. -/
def slotGuest (ee : Bool) (bs : List Byte) : State :=
  let s := (guest nv101).setReg ⟨.SCTLR, .EL2, 0⟩ (if ee then 0x2000000#64 else 0#64)
  { s with mem := s.mem.writeBytes 0x80010020 bs }

/-- B6c.1 and B6c.2 (with VTTBR_EL2 for HCR_EL2): the byte order of a transformed read. -/
theorem test_B6c_read :
    runs (slotGuest false [0x11#8, 0#8, 0#8, 0x80#8]) 0xD53C2101#32
        (fun t => t.x 1#5 == 0x80000011#64 && t.pc == 0x40000004#64) ∧
      runs (slotGuest true [0x11#8, 0#8, 0#8, 0x80#8]) 0xD53C2101#32
        (fun t => t.x 1#5 == 0x1100008000000000#64) := by decide +kernel

/-- B6c.3 and B6c.4: the byte order of a transformed write; the register is not written. -/
theorem test_B6c_write :
    runs ((slotGuest false []).setX 1#5 0x12340000#64) 0xD51C2101#32
        (fun t => t.mem.readBytes 0x80010020 8 == [0#8, 0#8, 0x34#8, 0x12#8, 0#8, 0#8, 0#8, 0#8] &&
          t.reg ⟨.VTTBR, .EL2, 0⟩ == 0#64) ∧
      runs ((slotGuest true []).setX 1#5 0x12340000#64) 0xD51C2101#32
        (fun t => t.mem.readBytes 0x80010020 8 ==
          [0#8, 0#8, 0#8, 0#8, 0x12#8, 0x34#8, 0#8, 0#8]) := by decide +kernel

/-- B6c.9 and B6c.10: the 16-byte forms, with the byte that is not zero at either end. -/
theorem test_B6c_pair :
    runs (slotGuest false [1#8, 2#8, 3#8, 4#8, 5#8, 6#8, 7#8, 8#8, 9#8, 10#8, 11#8, 12#8, 13#8,
        14#8, 15#8, 16#8]) 0xD57C2102#32
        (fun t => t.x 2#5 == 0x0807060504030201#64 && t.x 3#5 == 0x100F0E0D0C0B0A09#64) ∧
      runs (((slotGuest false []).setX 2#5 1#64).setX 3#5 2#64) 0xD55C2102#32
        (fun t => t.mem.read 0x80010020 == 1#8 && t.mem.read 0x80010028 == 2#8) := by
  decide +kernel

/-- B6c.11: MRRS of a 128-bit register that NV traps in the 64-bit form is refused. -/
theorem test_B6c_unspecified :
    (match step ((guest nv100).withFetchWord 32 0xD57C2102) with
      | .refused r => r == .unspecified128
      | .next _ => false
      | .fault _ => false) = true := by decide +kernel

/-- B7a: SPSR_EL1 saved by an exception from EL1 to EL1. -/
theorem test_B7a_saved_mode :
    [(0#64, 0x3C5#64), (nv100, 0x3C9#64), (nv110, 0x3C5#64), (nv101, 0x3C9#64),
      (nv111, 0x3C9#64)].all
      (fun p => (undefinedInstr (guest p.1)).reg ⟨.SPSR, .EL1, 0⟩ == p.2) = true := by
  decide +kernel

/-- The VNCR page with this walk in the EL2 regime. -/
def pageGuest (r : WalkResult) : State :=
  { guest nv101 with mappings := [⟨.el2, 0x80010#52, r⟩] }

/-- B7b.1, B7b.3: a translation and a permission fault of a transformed write. -/
theorem test_B7b_abort :
    runs (pageGuest (.fault 0x07#6)) 0xD51C2101#32
        (fun t => t.reg ⟨.ESR, .EL2, 0⟩ == 0x96002047#64 &&
          t.reg ⟨.FAR, .EL2, 0⟩ == 0x80010020#64 && t.pc == 0x48000400#64) ∧
      runs (pageGuest (.page 0x80010#52 3#2 [] 0x80#64 true false)) 0xD51C2101#32
        (fun t => t.reg ⟨.ESR, .EL2, 0⟩ == 0x9600204F#64) ∧
      runs (pageGuest (.page 0x80010#52 3#2 [] 0#64 true true)) 0xD53C1101#32
        (fun t => t.reg ⟨.ESR, .EL2, 0⟩ == 0x96002010#64) := by decide +kernel

/-- R234, R235: a profiled access that aborts is recorded all the same, without the address while
profiling is disabled at EL2. -/
theorem test_abort_is_profiled :
    runs { pageGuest (.fault 0x07#6) with profiling := ⟨true, false⟩ } 0xD51C2101#32
        (fun t => t.events == [.executed .EL1, .profiled none]) ∧
      runs { pageGuest (.fault 0x07#6) with profiling := ⟨true, true⟩ } 0xD51C2101#32
        (fun t => t.events == [.executed .EL1, .profiled (some 0x80010020#64)]) := by
  decide +kernel

/-- R62: a list of 128-bit registers makes none of HCR_EL2, whose slot is at 0x78. -/
theorem test_R62 :
    isReg128 { resetConfig with is128 := [⟨.HCR, .EL2, 0⟩, ⟨.VTTBR, .EL2, 0⟩] } ⟨.HCR, .EL2, 0⟩ =
        false ∧
      isReg128 resetConfig ⟨.TTBR1, .EL12, 0⟩ = true := by decide +kernel

/-- A watchpoint on the slot of HCR_EL2. -/
def hcrWatch (linked : Bool) : Watchpoint where
  base := 0x80010078#64
  size := 1
  matchEL1 := false
  matchEL2 := true
  loads := true
  stores := true
  linkedContext := linked

/-- A guest with that watchpoint, exceptions enabled at EL2. -/
def watchGuest (linked halting : Bool) : State :=
  { guest nv101 with
    dbg := { Debug.reset with
      osLockUnlocked := true
      debugExceptionsEL2 := true
      hde := halting
      haltingAllowed := halting
      watchpoints := [hcrWatch linked] } }

/-- B7b.7, B7b.8 and B7b.10: a Watchpoint exception of a load and of a store, and halting. -/
theorem test_B7b_watchpoint :
    runs (watchGuest false false) 0xD53C1101#32
        (fun t => t.reg ⟨.ESR, .EL2, 0⟩ == 0xD6002022#64 &&
          t.reg ⟨.FAR, .EL2, 0⟩ == 0x80010078#64) ∧
      runs (watchGuest false false) 0xD51C1100#32
        (fun t => t.reg ⟨.ESR, .EL2, 0⟩ == 0xD6002062#64) ∧
      runs (watchGuest false true) 0xD53C1101#32
        (fun t => t.dbg.halted && t.pc == 0x40000000#64) := by decide +kernel

/-- P5: a fault at a sign-extended VNCR address. -/
theorem test_P5 :
    runs ({ guest nv101 with mappings := [⟨.el2, 0xFF00000000000#52, .fault 0x04#6⟩] }.setReg
        ⟨.VNCR, .EL2, 0⟩ 0x0100000000000000#64) 0xD53C1101#32
      (fun t => t.reg ⟨.ESR, .EL2, 0⟩ == 0x96002004#64 &&
        t.reg ⟨.FAR, .EL2, 0⟩ == 0xFF00000000000078#64) = true := by decide +kernel

/-- P4, step 2: an ERET at EL2 returns to EL1h with the saved state (0x3C5). -/
theorem test_P4_return :
    runs (((guestAt .EL2 nv100).setReg ⟨.ELR, .EL2, 0⟩ 0x40000004#64).setReg
        ⟨.SPSR, .EL2, 0⟩ 0x3C5#64) 0xD69F03E0#32
      (fun t => t.pc == 0x40000004#64 && t.pstate == (guest 0#64).pstate) = true := by
  decide +kernel

/-! ## The hypotheses of the statements are met

Each theorem is named after its statement (and a clause of it). -/

/-- The invariant as a test. -/
def invOk (s : State) : Bool :=
  s.mem.wf && RegStore.wf s.regs && decide s.tlbHeldNV.Nodup && s.cfg.hasEL s.pstate.el &&
    (!decide (s.pstate.el = .EL0) || !s.pstate.sp)

theorem inv_of_ok {s : State} (h : invOk s = true) : s.Inv := by
  simp only [invOk, Bool.and_eq_true, decide_eq_true_eq, Bool.or_eq_true, Bool.not_eq_true',
    decide_eq_false_iff_not] at h
  obtain ⟨⟨⟨⟨h1, h2⟩, h3⟩, h4⟩, h5⟩ := h
  exact ⟨h1, h2, h3, h4, fun h0 => h5.resolve_left (fun hc => hc h0)⟩

/-- Encodings of R77. -/
def hcrE : SysEnc := ⟨1#1, 4#3, 1#4, 1#4, 0#3⟩
def vbar1E : SysEnc := ⟨1#1, 0#3, 12#4, 0#4, 0#3⟩
def scxtnum1E : SysEnc := ⟨1#1, 0#3, 13#4, 0#4, 7#3⟩
def vbar2E : SysEnc := ⟨1#1, 4#3, 12#4, 0#4, 0#3⟩
def sctlr1E : SysEnc := ⟨1#1, 0#3, 1#4, 0#4, 0#3⟩
def actlr1E : SysEnc := ⟨1#1, 0#3, 1#4, 0#4, 1#3⟩
def mdscr1E : SysEnc := ⟨0#1, 0#3, 0#4, 2#4, 2#3⟩
def vttbr2E : SysEnc := ⟨1#1, 4#3, 2#4, 1#4, 0#3⟩
def vncr2E : SysEnc := ⟨1#1, 4#3, 2#4, 2#4, 0#3⟩
def ttbr0E : SysEnc := ⟨1#1, 0#3, 2#4, 0#4, 0#3⟩
def currentE : SysEnc := ⟨1#1, 0#3, 4#4, 2#4, 2#3⟩
def panE : SysEnc := ⟨1#1, 0#3, 4#4, 2#4, 3#3⟩
def uaoE : SysEnc := ⟨1#1, 0#3, 4#4, 2#4, 4#3⟩
def tfsr2E : SysEnc := ⟨1#1, 4#3, 5#4, 6#4, 0#3⟩
def mmfr4E : SysEnc := ⟨1#1, 0#3, 0#4, 7#4, 4#3⟩

/-- The guest with this word where it fetches. -/
def fetching (s : State) (w : BitVec 32) : State := s.withFetchWord 32 w.toNat

/-- The word of a fetch that gives one. -/
def fetchedWord : Fetched → Option (BitVec 32)
  | .word w _ => some w
  | .stops _ => none

theorem fetched_of_word {f : Fetched} {w : BitVec 32} (h : fetchedWord f = some w) :
    ∃ t, f = .word w t := by
  cases f with
  | word w' t => cases h; exact ⟨t, rfl⟩
  | stops t => cases h

theorem next_of_isNext {r : Res} (h : nextIs r (fun _ => true) = true) : ∃ t, r = .next t := by
  cases r with
  | next t => exact ⟨t, rfl⟩
  | fault f => cases h
  | refused f => cases h

/-- The permissions of a page without restriction. -/
def plain : Perms := ⟨some false, false, false, false⟩

/-- An access with nothing in its way. -/
theorem accessible_of {s : State} {r : RegName} {dir : Dir}
    (h : (implemented s.cfg r && (decide (s.pstate.el = .EL3) || !el3TrapHigher s r dir) &&
      !undefinedHere s r dir && decide (otherTrap s (.reg r dir) = none)) = true) :
    Accessible s r dir := by
  simp only [Bool.and_eq_true, Bool.or_eq_true, Bool.not_eq_true', decide_eq_true_eq] at h
  exact ⟨h.1.1.1, h.1.1.2, h.1.2, h.2⟩

theorem witness_StepKeepsInvariant :
    ∃ s t : State, s.Inv ∧ step s = .next t := by
  obtain ⟨t, ht⟩ := next_of_isNext (r := step (fetching (guest nv100) 0xD53C1101#32))
    (by decide +kernel)
  exact ⟨_, t, inv_of_ok (by decide +kernel), ht⟩

/-- Also for `StepKeepsSurroundings`; the step at EL2. -/
theorem witness_StepKeepsSurroundings : ∃ s t : State, s.pstate.el = .EL2 ∧ step s = .next t := by
  obtain ⟨t, ht⟩ := next_of_isNext (r := step (fetching (guestAt .EL2 nv100) 0xD53C1101#32))
    (by decide +kernel)
  exact ⟨_, t, by decide +kernel, ht⟩

theorem witness_DecodeOfEncode :
    wellFormed (.mrrs vttbr2E 30#5) = true ∧ wellFormed (.smc 0xFFFF#16) = true := by decide

theorem witness_EncodeOfDecode : decodeWord 0xD50C97DF#32 = .ok (.tlbi_VMALLS12E1NXS 31#5) := by
  rfl

theorem witness_OddPairIsRefused :
    ∃ (s t : State) (w : BitVec 32),
      (w.extractLsb' 20 12 = 0xD57#12 ∨ w.extractLsb' 20 12 = 0xD55#12) ∧ w.getLsbD 0 = true ∧
        s.dbg.halted = false ∧ el0UnderNV1 s = false ∧ instructionOrException s = .word w t := by
  obtain ⟨t, ht⟩ := fetched_of_word (w := 0xD55C211F#32)
    (f := instructionOrException (fetching (guest 0#64) 0xD55C211F#32)) (by decide +kernel)
  exact ⟨_, t, _, .inr (by decide), by decide, by decide +kernel, by decide +kernel, ht⟩

theorem witness_StepRunsDecodedInstruction :
    ∃ (s t : State) (w : BitVec 32) (i : Instr), s.dbg.halted = false ∧ el0UnderNV1 s = false ∧
      instructionOrException s = .word w t ∧ decodeWord w = .ok i := by
  obtain ⟨t, ht⟩ := fetched_of_word (w := 0xD69F03E0#32)
    (f := instructionOrException (fetching (guest nv110) 0xD69F03E0#32)) (by decide +kernel)
  exact ⟨_, t, _, .eret, by decide +kernel, by decide +kernel, ht, rfl⟩

/-- The clause of a regime. -/
theorem witness_StepRunsBytesAtPc :
    ∃ s : State, s.dbg.halted = false ∧ el0UnderNV1 s = false ∧ s.dbg.instrEvents = [] ∧
      s.pc.extractLsb' 0 2 = 0#2 ∧ s.pstate.il = false ∧ fetchRegime s = some .el10 ∧
      s.tlbHeldNV = [] ∧
      translate s .el10 (decide (Regime.el10 = .el10) && nv1Active s) s.pc =
        .ok 0x40000000 plain 3#2 true false ∧
      executeNever s .el10 plain = false ∧
      decode (s.mem.readBytes 0x40000000 4) = .ok (.eret, []) :=
  ⟨fetching (guest nv100) 0xD69F03E0#32, by decide +kernel, by decide +kernel, by decide +kernel,
    by decide +kernel, by decide +kernel, by decide +kernel, by decide +kernel, by decide +kernel,
    by decide +kernel, by rfl⟩

/-- The clause of EL3. -/
theorem witness_StepRunsBytesAtPc_EL3 :
    ∃ s : State, s.dbg.halted = false ∧ el0UnderNV1 s = false ∧ s.dbg.instrEvents = [] ∧
      s.pc.extractLsb' 0 2 = 0#2 ∧ s.pstate.il = false ∧ s.pstate.el = .EL3 ∧
      decode (s.mem.readBytes s.pc.toNat 4) = .ok (.eret, []) :=
  ⟨fetching (guestAt .EL3 nv100) 0xD69F03E0#32, by decide +kernel, by decide +kernel,
    by decide +kernel, by decide +kernel, by decide +kernel, by decide +kernel, by rfl⟩

/-- A guest whose own page is what a walk finds. -/
def fetchGuest (r : WalkResult) : State := { guest nv100 with mappings := [⟨.el10, 0x40000#52, r⟩] }

/-- A fetch that faults, one of a page with PXN and one that meets an External abort. -/
theorem witness_InstructionSideExceptionFirst_fetch :
    (∀ r ∈ [WalkResult.fault 0x07#6, .page 0x40000#52 3#2 [] 0x20000000000000#64 true false,
        .page 0x40000#52 3#2 [] 0#64 true true],
      invOk (fetchGuest r) = true ∧ (fetchGuest r).dbg.halted = false ∧
        el0UnderNV1 (fetchGuest r) = false ∧
        instructionSide { fetchGuest r with events := [] } = none ∧
        fetchRegime (fetchGuest r) = some .el10 ∧ (fetchGuest r).tlbHeldNV = []) ∧
      translate (fetchGuest (.fault 0x07#6)) .el10
        (decide (Regime.el10 = .el10) && nv1Active (fetchGuest (.fault 0x07#6))) 0x40000000#64 =
          .fault 0x07#6 ∧
      executeNever (fetchGuest (.page 0x40000#52 3#2 [] 0x20000000000000#64 true false)) .el10
        ⟨some false, true, false, false⟩ = true ∧
      translate (fetchGuest (.page 0x40000#52 3#2 [] 0x20000000000000#64 true false)) .el10 false
        0x40000000#64 = .ok 0x40000000 ⟨some false, true, false, false⟩ 3#2 true false ∧
      executeNever (fetchGuest (.page 0x40000#52 3#2 [] 0#64 true true)) .el10 plain = false ∧
      translate (fetchGuest (.page 0x40000#52 3#2 [] 0#64 true true)) .el10 false
        0x40000000#64 = .ok 0x40000000 plain 3#2 true true := by decide +kernel

/-- Both pending exceptions of the second clause, and with them the first. -/
theorem witness_InstructionSideExceptionFirst :
    let s := { guest nv100 with pc := 0x40000002#64 }
    let u := { guest nv100 with pstate := { (guest nv100).pstate with il := true } }
    s.dbg.halted = false ∧ el0UnderNV1 s = false ∧ s.pc.extractLsb' 0 2 ≠ 0#2 ∧
      (instructionSide { s with events := [] }).isSome = true ∧ u.dbg.halted = false ∧
      el0UnderNV1 u = false ∧ u.pstate.il = true ∧
      (instructionSide { u with events := [] }).isSome = true := by decide +kernel

theorem witness_StepAtEL0UnderNV1IsRefused :
    let s := guestAt .EL0 nv110
    s.dbg.halted = false ∧ s.pstate.el = .EL0 ∧ (effNV s).nv = true ∧ (effNV s).nv1 = true := by
  decide +kernel

/-- One state for each premise, NV_frac and E2H0 at the values that matter and at 0. -/
theorem witness_ResolvedTripleFollowsParameters :
    (guestOn (fun c => { c with haveNV := false }) nv111).cfg.haveNV = false ∧
      (guestOn (fun c => { c with el2Enabled := false }) nv111).cfg.el2Enabled = false ∧
      (guestOn (fun c => { c with idAA64MMFR4 := 0xE000000#64 }) nv110).cfg.e2h0 = 0b1110#4 ∧
      (effNV (guest nv101)).nv2 = true ∧
      (guestOn (fun c => { c with idAA64MMFR4 := 0x100000#64 }) nv100).cfg.nvFrac = 0b0001#4 ∧
      (guestOn (fun c => { c with idAA64MMFR4 := 0x100000#64 }) nv100).cfg.haveNV2 = true ∧
      (guest nv110).cfg.haveNV = true ∧ (guest nv110).cfg.el2Enabled = true ∧
      (guest nv110).hcr 42 = true ∧ (guest 0#64).hcr 43 = false ∧
      (guestOn (fun c => { c with idAA64MMFR4 := 0xE000000#64 }) nv010).cfg.e2h0 = 0b1110#4 ∧
      (guest nv100).cfg.nvFrac ≠ 0b0001#4 ∧ (effNV (guest nv100)).nv = true ∧
      (guest nv010).hcr 42 = false ∧ (guest nv010).hcr 43 = true ∧
      (guest nv010).cfg.e2h0 ≠ 0b1110#4 ∧ (guest nv010).cfg.cuNV0NV1 = .asNV11 ∧
      (guestOn (fun c => { c with cuNV0NV1 := .asNV00 }) nv010).cfg.cuNV0NV1 = .asNV00 ∧
      (guestOn (fun c => { c with cuNV0NV1 := .trapOnly }) nv010).cfg.cuNV0NV1 = .trapOnly := by
  decide +kernel

/-- An implementation with EL3, which traps reads of HCR_EL2 and writes of ACTLR_EL1. -/
def trapsHCR (c : Config) : Config :=
  { c with haveEL3 := true, el3Traps := [(⟨.HCR, .EL2, 0⟩, .read), (⟨.ACTLR, .EL1, 0⟩, .write)] }

/-- The common premises of the outcome table. -/
def tablePremises (s : State) (r : RegName) (dir : Dir) : Bool :=
  decide (s.pstate.el = .EL1) && s.cfg.el2Enabled && implemented s.cfg r &&
    !undefAtEL2 s r dir && !el3TrapHigher s r dir && decide (otherTrap s (.reg r dir) = none)

/-- The six clauses in their order, the first with NV 0 and with TrapOnly. -/
theorem witness_ClassifierFollowsOutcomeTable :
    (tablePremises (guest 0#64) ⟨.HCR, .EL2, 0⟩ .read ∧ (effNV (guest 0#64)).nv = false) ∧
      (tablePremises (guestOn (fun c => { c with cuNV0NV1 := .trapOnly }) nv010)
          ⟨.VBAR, .EL1, 0⟩ .write ∧
        (effNV (guestOn (fun c => { c with cuNV0NV1 := .trapOnly }) nv010)).trapOnly = true) ∧
      (tablePremises (guest nv101) ⟨.CurrentEL, .none, 0⟩ .read ∧
        (effNV (guest nv101)).nv = true) ∧
      (tablePremises (guest nv110) ⟨.SCTLR, .EL12, 0⟩ .write ∧ (effNV (guest nv110)).nv = true ∧
        (effNV (guest nv110)).nv2 = false) ∧
      (tablePremises (guest nv111) ⟨.TFSR, .EL2, 0⟩ .write ∧ (effNV (guest nv111)).nv2 = true ∧
        redirectTarget ⟨.TFSR, .EL2, 0⟩ = some ⟨.TFSR, .EL1, 0⟩) ∧
      (tablePremises (guest nv111) ⟨.AMEVCNTVOFF1, .EL2, 15⟩ .read ∧
        vncrOffset (guest nv111).cfg.row298 ⟨.AMEVCNTVOFF1, .EL2, 15⟩ true = some 0xAF8#12) ∧
      (tablePremises (guest nv101) ⟨.VBAR, .EL2, 0⟩ .read ∧ (effNV (guest nv101)).nv2 = true ∧
        redirectTarget ⟨.VBAR, .EL2, 0⟩ = none ∧
        vncrOffset (guest nv101).cfg.row298 ⟨.VBAR, .EL2, 0⟩ (effNV (guest nv101)).nv1 = none) := by
  decide +kernel

/-- An implementation on which VSTTBR_EL2 is UNDEFINED at EL2 in Non-secure state (B6b.36). -/
def noVSTTBR (c : Config) : Config :=
  { c with undefAtEL2 := [(⟨.VSTTBR, .EL2, 0⟩, .read, .nonSecure)] }

theorem witness_GuardedAccessIsUnchanged :
    let s := guestOn noVSTTBR nv101
    let u := guest (nv111 ||| 0x4000000#64)
    s.pstate.el = .EL1 ∧ s.cfg.el2Enabled = true ∧ implemented s.cfg ⟨.VSTTBR, .EL2, 0⟩ = true ∧
      redirectTarget ⟨.VSTTBR, .EL2, 0⟩ = none ∧ nvTrapSet ⟨.VSTTBR, .EL2, 0⟩ = true ∧
      undefAtEL2 s ⟨.VSTTBR, .EL2, 0⟩ .read = true ∧ u.pstate.el = .EL1 ∧
      u.cfg.el2Enabled = true ∧ implemented u.cfg ⟨.SCTLR, .EL1, 0⟩ = true ∧
      (effNV u).nv2 = true ∧ redirectTarget ⟨.SCTLR, .EL1, 0⟩ = none ∧
      nvTrapSet ⟨.SCTLR, .EL1, 0⟩ = false ∧ nv1Set ⟨.SCTLR, .EL1, 0⟩ = false ∧
      (⟨.SCTLR, .EL1, 0⟩ : RegName) ≠ ⟨.CurrentEL, .none, 0⟩ ∧
      (otherTrap u (.reg ⟨.SCTLR, .EL1, 0⟩ .write)).isSome = true ∧
      nvTrapSet ⟨.ACTLR, .EL1, 0⟩ = false ∧ nv1Set ⟨.ACTLR, .EL1, 0⟩ = false ∧
      el3TrapHigher (guestOn trapsHCR nv101) ⟨.ACTLR, .EL1, 0⟩ .write = true := by decide +kernel

/-- The three premises. -/
theorem witness_RulesFireOnlyAtEL1 :
    (guestAt .EL2 nv111).pstate.el ≠ .EL1 ∧
      (guestOn (fun c => { c with haveNV := false }) nv111).cfg.haveNV = false ∧
      (guestOn (fun c => { c with el2Enabled := false }) nv111).cfg.el2Enabled = false := by
  decide +kernel

/-- Without FEAT_NV an absent register is left to the base architecture (R2), which has it UNDEFINED. -/
theorem test_absent_register_without_nv :
    let s := guestOn (fun c => { c with haveNV := false, notImplemented := [⟨.SCTLR, .EL1, 0⟩] }) nv111
    classifyRegAccess s ⟨.SCTLR, .EL1, 0⟩ .read false = .unchanged ∧
      (baseGate s sctlr1E ⟨.SCTLR, .EL1, 0⟩ 1#5 .read).isSome = true := by decide +kernel

/-- Without FEAT_NV2 and, VBAR_EL2 having no row, with it. -/
theorem witness_NvTrapsRegisterAccess :
    ∃ (s u : State) (e e' : SysEnc), s.Inv ∧ s.pstate.el = .EL1 ∧ s.cfg.el2Enabled = true ∧
      (effNV s).nv = true ∧ (effNV s).nv2 = false ∧ implemented s.cfg (sysRegName s.cfg e) = true ∧
      sysRegName s.cfg e = ⟨.HCR, .EL2, 0⟩ ∧ undefAtEL2 s (sysRegName s.cfg e) .read = false ∧
      el3TrapHigher s (sysRegName s.cfg e) .read = false ∧ u.Inv ∧ u.pstate.el = .EL1 ∧
      u.cfg.el2Enabled = true ∧ (effNV u).nv = true ∧ (effNV u).nv2 = true ∧
      redirectTarget (sysRegName u.cfg e') = none ∧
      vncrOffset u.cfg.row298 (sysRegName u.cfg e') (effNV u).nv1 = none ∧
      implemented u.cfg (sysRegName u.cfg e') = true ∧ sysRegName u.cfg e' = ⟨.VBAR, .EL2, 0⟩ ∧
      undefAtEL2 u (sysRegName u.cfg e') .write = false ∧
      el3TrapHigher u (sysRegName u.cfg e') .write = false :=
  ⟨guest nv100, guest nv111, hcrE, vbar2E, inv_of_ok (by decide +kernel), by decide +kernel,
    by decide +kernel, by decide +kernel, by decide +kernel, by decide +kernel, by decide +kernel,
    by decide +kernel, by decide +kernel, inv_of_ok (by decide +kernel), by decide +kernel⟩

/-- The two clauses, and TrapOnly. -/
theorem witness_Nv1TrapsItsFourRegisters :
    ∃ s u v : State, s.Inv ∧ u.Inv ∧ v.Inv ∧
      (s.pstate.el = .EL1 ∧ s.cfg.el2Enabled = true ∧
        sysRegName s.cfg scxtnum1E = ⟨.SCXTNUM, .EL1, 0⟩ ∧
        implemented s.cfg ⟨.SCXTNUM, .EL1, 0⟩ = true ∧ (effNV s).nv = true ∧
        (effNV s).nv1 = true ∧ (effNV s).nv2 = false) ∧
      (u.pstate.el = .EL1 ∧ u.cfg.el2Enabled = true ∧
        sysRegName u.cfg vbar1E = ⟨.VBAR, .EL1, 0⟩ ∧
        implemented u.cfg ⟨.VBAR, .EL1, 0⟩ = true ∧ (effNV u).nv = true ∧
        (effNV u).nv1 = true ∧ (effNV u).nv2 = true) ∧
      (v.pstate.el = .EL1 ∧ v.cfg.el2Enabled = true ∧
        sysRegName v.cfg vbar1E = ⟨.VBAR, .EL1, 0⟩ ∧
        implemented v.cfg ⟨.VBAR, .EL1, 0⟩ = true ∧ (effNV v).trapOnly = true ∧
        (effNV v).nv2 = false) :=
  ⟨guest nv110, guest nv111, guestOn (fun c => { c with cuNV0NV1 := .trapOnly }) nv010,
    inv_of_ok (by decide +kernel), inv_of_ok (by decide +kernel), inv_of_ok (by decide +kernel),
    by decide +kernel⟩

/-- Under NV, and under AT with NV 0. -/
theorem witness_AddressTranslationTraps :
    ∃ s u : State, s.Inv ∧ u.Inv ∧
      (atOf (.at_S1E2A 31#5) = some .S1E2A ∧ s.pstate.el = .EL1 ∧ s.cfg.el2Enabled = true ∧
        s.cfg.haveATS1A = true ∧ (effNV s).nv = true ∧
        AtOp.S1E2A ∈ [AtOp.S1E2R, .S1E2W, .S12E1R, .S12E1W, .S12E0R, .S12E0W, .S1E2A]) ∧
      (atOf (.at_S1E1WP 0#5) = some .S1E1WP ∧ u.pstate.el = .EL1 ∧ u.cfg.el2Enabled = true ∧
        u.cfg.haveNV = true ∧ u.hcr 44 = true ∧
        AtOp.S1E1WP ∈ [AtOp.S1E0R, .S1E0W, .S1E1R, .S1E1W, .S1E1RP, .S1E1WP, .S1E1A]) :=
  ⟨guest nv100, guest 0x0000100000000000#64, inv_of_ok (by decide +kernel),
    inv_of_ok (by decide +kernel), by decide +kernel⟩

theorem witness_TlbMaintenanceTraps :
    ∃ (s : State) (n : TlbiNeeds), tlbiOf (.tlbi_RVALE2OSNXS 5#5) = some n ∧ n.met s.cfg ∧ s.Inv ∧
      s.pstate.el = .EL1 ∧ s.cfg.el2Enabled = true ∧ (effNV s).nv = true :=
  ⟨guest nv100, ⟨true, true, true⟩, rfl, ⟨fun _ => rfl, fun _ => rfl, fun _ => rfl⟩,
    inv_of_ok (by decide +kernel), by decide +kernel⟩

theorem witness_ExceptionReturnTraps :
    ∃ s : State, s.Inv ∧ s.pstate.el = .EL1 ∧ s.cfg.el2Enabled = true ∧ (effNV s).nv = true ∧
      s.cfg.havePAuth = true :=
  ⟨guest nv101, inv_of_ok (by decide +kernel), by decide +kernel⟩

/-- An implementation with EL3. -/
def withEL3 (c : Config) : Config := { c with haveEL3 := true }

theorem witness_SecureMonitorCallTraps :
    ∃ s u : State, s.Inv ∧ u.Inv ∧
      (s.pstate.el = .EL1 ∧ s.cfg.el2Enabled = true ∧ s.hcr 19 = true ∧ s.cfg.haveEL3 = false ∧
        (effNV s).nv = true) ∧
      (u.pstate.el = .EL1 ∧ u.cfg.el2Enabled = true ∧ u.hcr 19 = true ∧ u.cfg.haveEL3 = true ∧
        otherTrap u .smc = none) :=
  ⟨guest (nv100 ||| 0x80000#64), guestOn withEL3 0x80000#64, inv_of_ok (by decide +kernel),
    inv_of_ok (by decide +kernel), by decide +kernel⟩

/-- Under {1, 1} instead of the transformation of a register that NV traps (R165). -/
theorem witness_HigherPriorityTrapGoesToEL3_nv2 :
    ∃ s : State, s.Inv ∧ s.pstate.el = .EL1 ∧ s.cfg.el2Enabled = true ∧ (effNV s).nv = true ∧
      (effNV s).nv2 = true ∧ implemented s.cfg (sysRegName s.cfg hcrE) = true ∧
      nvTrapSet (sysRegName s.cfg hcrE) = true ∧
      redirectTarget (sysRegName s.cfg hcrE) = none ∧
      undefAtEL2 s (sysRegName s.cfg hcrE) .read = false ∧
      el3TrapHigher s (sysRegName s.cfg hcrE) .read = true :=
  ⟨guestOn trapsHCR nv101, inv_of_ok (by decide +kernel), by decide +kernel⟩

/-- Instead of the NV trap, and instead of a transformation. -/
theorem witness_HigherPriorityTrapGoesToEL3 :
    ∃ s u : State, (s.Inv ∧ s.pstate.el = .EL1 ∧ s.cfg.el2Enabled = true ∧ (effNV s).nv = true ∧
      (effNV s).nv2 = false ∧ implemented s.cfg (sysRegName s.cfg hcrE) = true ∧
      nvTrapSet (sysRegName s.cfg hcrE) = true ∧
      undefAtEL2 s (sysRegName s.cfg hcrE) .read = false ∧
      el3TrapHigher s (sysRegName s.cfg hcrE) .read = true) ∧
      u.Inv ∧ u.pstate.el = .EL1 ∧ u.cfg.el2Enabled = true ∧ (effNV u).nv2 = true ∧
      implemented u.cfg (sysRegName u.cfg actlr1E) = true ∧
      nvTrapSet (sysRegName u.cfg actlr1E) = false ∧ nv1Set (sysRegName u.cfg actlr1E) = false ∧
      vncrOffset u.cfg.row298 (sysRegName u.cfg actlr1E) (effNV u).nv1 = some 0x118#12 ∧
      el3TrapHigher u (sysRegName u.cfg actlr1E) .write = true :=
  ⟨guestOn trapsHCR nv100, guestOn trapsHCR nv101,
    ⟨inv_of_ok (by decide +kernel), by decide +kernel⟩, inv_of_ok (by decide +kernel),
    by decide +kernel⟩

theorem witness_OtherTrapIsTakenInsteadOfTransformation :
    ∃ (s : State) (o : OtherTrap) (off : BitVec 12), s.Inv ∧ s.pstate.el = .EL1 ∧
      s.cfg.el2Enabled = true ∧ (effNV s).nv2 = true ∧
      nvTrapSet (sysRegName s.cfg sctlr1E) = false ∧ nv1Set (sysRegName s.cfg sctlr1E) = false ∧
      vncrOffset s.cfg.row298 (sysRegName s.cfg sctlr1E) (effNV s).nv1 = some off ∧
      implemented s.cfg (sysRegName s.cfg sctlr1E) = true ∧
      el3TrapHigher s (sysRegName s.cfg sctlr1E) .write = false ∧
      undefinedHere s (sysRegName s.cfg sctlr1E) .write = false ∧
      otherTrap s (.reg (sysRegName s.cfg sctlr1E) .write) = some o ∧ o.target = .EL2 :=
  ⟨guest (nv111 ||| 0x4000000#64), trapToEL2When ⟨.HCR, .EL2, 0⟩ 26 ⟨.SCTLR, .EL1, 0⟩ .write,
    0x110#12, inv_of_ok (by decide +kernel), by decide +kernel⟩

/-- The three clauses: from EL1, from EL0, and to EL2. -/
theorem witness_SavedModeFieldUnderNV :
    ∃ s u : State, s.Inv ∧ u.Inv ∧ s.pstate.el = .EL1 ∧ excTarget .EL1 .EL1 = .EL1 ∧
      excTarget .EL0 .EL1 = .EL1 ∧ u.pstate.el = .EL0 ∧ excTarget .EL1 .EL0 = .EL1 :=
  ⟨guest nv111, guestAt .EL0 nv100, inv_of_ok (by decide +kernel), inv_of_ok (by decide +kernel),
    by decide +kernel⟩

/-- A register that is absent, one of EL2 with NV 0, and a write of a read-only register. -/
theorem witness_RegisterAccessUndefinedAtEL1 :
    ∃ s : State, s.Inv ∧ s.pstate.el = .EL1 ∧ effTGE s = false ∧
      implemented s.cfg (sysRegName s.cfg ⟨1#1, 0#3, 15#4, 0#4, 0#3⟩) = false ∧
      (classifyRegAccess s (sysRegName s.cfg hcrE) .read false = .unchanged ∧
        el3TrapHigher s (sysRegName s.cfg hcrE) .read = false ∧
        1 < (minEL (sysRegName s.cfg hcrE)).num) ∧
      (classifyRegAccess s (sysRegName s.cfg mmfr4E) .write false = .unchanged ∧
        el3TrapHigher s (sysRegName s.cfg mmfr4E) .write = false ∧
        readOnlyReg s.cfg (sysRegName s.cfg mmfr4E) = true) :=
  ⟨guest 0#64, inv_of_ok (by decide +kernel), by decide +kernel⟩

/-- An implementation without the optional features. -/
def bare (c : Config) : Config :=
  { c with haveATS1A := false, havePAN2 := false, havePAuth := false, haveTLBIOS := false,
           haveSYSREG128 := false }

/-- The eight cases: with NV 0 the first two and the sixth, without the features the others. -/
theorem witness_OperationUndefinedAtEL1 :
    ∃ s u : State, s.Inv ∧ u.Inv ∧
      (s.pstate.el = .EL1 ∧ effTGE s = false ∧ (effNV s).nv = false ∧
        atOf (.at_S12E0W 1#5) = some .S12E0W ∧ (tlbiOf (.tlbi_ALLE2 31#5)).isSome = true ∧
        s.cfg.haveEL3 = false) ∧
      (u.pstate.el = .EL1 ∧ effTGE u = false ∧ u.cfg.haveATS1A = false ∧
        atOf (.at_S1E1A 1#5) = some .S1E1A ∧ u.cfg.havePAN2 = false ∧ effAT u = false ∧
        atOf (.at_S1E1WP 1#5) = some .S1E1WP ∧ u.cfg.havePAuth = false ∧
        isReg128 u.cfg (sysRegName u.cfg vttbr2E) = false) ∧
      tlbiOf (.tlbi_ALLE2OS 31#5) = some ⟨false, true, false⟩ ∧
      ¬(TlbiNeeds.met ⟨false, true, false⟩ u.cfg) :=
  ⟨guest 0#64, guestOn bare nv100, inv_of_ok (by decide +kernel), inv_of_ok (by decide +kernel),
    by decide +kernel, by decide +kernel, rfl, fun h => by cases h.2.1 rfl⟩

theorem witness_SecureMonitorCallEntersEL3 :
    ∃ s : State, s.Inv ∧ s.pstate.el ≠ .EL0 ∧ s.cfg.haveEL3 = true ∧ otherTrap s .smc = none ∧
      s.pstate.el = .EL1 ∧ effTSC s = false :=
  ⟨guestOn withEL3 nv100, inv_of_ok (by decide +kernel), by decide +kernel⟩

/-- A return from EL2 to EL1h by each instruction, one from EL1 to EL0, and an illegal one from EL1 to
EL2. -/
theorem witness_ExceptionReturnRestores :
    ∃ (s u z : State) (v w y : Word),
      ((∀ i ∈ [Instr.eret, .eretaa, .eretab], i ≠ .eret → s.cfg.havePAuth = true) ∧
        s.pstate.el ≠ .EL0 ∧ eretTrapped s = false ∧ otherTrap s .eret = none ∧
        v = s.reg ⟨.SPSR, elSuffix s.pstate.el, 0⟩) ∧ LegalImage s v ∧
      (u.pstate.el = .EL1 ∧ eretTrapped u = false ∧ otherTrap u .eret = none ∧
        w = u.reg ⟨.SPSR, elSuffix u.pstate.el, 0⟩) ∧ LegalImage u w ∧
      (z.pstate.el = .EL1 ∧ eretTrapped z = false ∧ otherTrap z .eret = none ∧
        y = z.reg ⟨.SPSR, elSuffix z.pstate.el, 0⟩) ∧ ¬LegalImage z y := by
  have h : legalReturn ((guest 0#64).setReg ⟨.SPSR, .EL1, 0⟩ 0x3C9#64) 0x3C9#64 = false := by
    decide +kernel
  exact ⟨(guestAt .EL2 nv100).setReg ⟨.SPSR, .EL2, 0⟩ 0x3C5#64,
    (guest 0#64).setReg ⟨.SPSR, .EL1, 0⟩ 0x3C0#64, (guest 0#64).setReg ⟨.SPSR, .EL1, 0⟩ 0x3C9#64,
    0x3C5#64, 0x3C0#64, 0x3C9#64, by decide +kernel, (legalReturn_iff _ _).1 (by decide +kernel),
    by decide +kernel, (legalReturn_iff _ _).1 (by decide +kernel), by decide +kernel,
    fun hl => by rw [(legalReturn_iff _ _).2 hl] at h; cases h⟩

theorem witness_ReturnAfterTrapResumes :
    ∃ s : State, s.Inv ∧ s.pstate.el = .EL1 ∧ s.cfg.el2Enabled = true ∧
      ∀ o ∈ s.cfg.otherTraps, o.key ≠ .eret :=
  ⟨guest nv100, inv_of_ok (by decide +kernel), by decide +kernel⟩

/-- At EL1 and at EL2. -/
theorem witness_MrsReadsStorage :
    classifyRegAccess (guest nv101) (sysRegName (guest nv101).cfg sctlr1E) .read false =
        .unchanged ∧
      Accessible (guest nv101) (sysRegName (guest nv101).cfg sctlr1E) .read ∧
      regView (sysRegName (guest nv101).cfg sctlr1E) = .storage ∧
      classifyRegAccess (guestAt .EL2 nv101) (sysRegName (guest nv101).cfg vbar2E) .read false =
        .unchanged ∧
      Accessible (guestAt .EL2 nv101) (sysRegName (guest nv101).cfg vbar2E) .read ∧
      regView (sysRegName (guest nv101).cfg vbar2E) = .storage :=
  ⟨by decide +kernel, accessible_of (by decide +kernel), by decide +kernel, by decide +kernel,
    accessible_of (by decide +kernel), by decide +kernel⟩

/-- The three views, at EL1 with NV 0. -/
theorem witness_MrsReadsStorage_views :
    sysRegName (guest 0#64).cfg mmfr4E = ⟨.ID_AA64MMFR4, .EL1, 0⟩ ∧
      sysRegName (guest 0#64).cfg panE = ⟨.PAN, .none, 0⟩ ∧
      sysRegName (guest 0#64).cfg uaoE = ⟨.UAO, .none, 0⟩ ∧
      ∀ r ∈ [(⟨.ID_AA64MMFR4, .EL1, 0⟩ : RegName), ⟨.PAN, .none, 0⟩, ⟨.UAO, .none, 0⟩],
        classifyRegAccess (guest 0#64) r .read false = .unchanged ∧
          Accessible (guest 0#64) r .read := by
  refine ⟨by decide +kernel, by decide +kernel, by decide +kernel, fun r hr => ?_⟩
  simp only [List.mem_cons, List.not_mem_nil, or_false] at hr
  rcases hr with rfl | rfl | rfl <;> exact ⟨by decide +kernel, accessible_of (by decide +kernel)⟩

theorem witness_MsrWritesStorage :
    (guest nv101).Inv ∧
      classifyRegAccess (guest nv101) (sysRegName (guest nv101).cfg sctlr1E) .write false =
        .unchanged ∧
      Accessible (guest nv101) (sysRegName (guest nv101).cfg sctlr1E) .write ∧
      regView (sysRegName (guest nv101).cfg sctlr1E) = .storage :=
  ⟨inv_of_ok (by decide +kernel), by decide +kernel, accessible_of (by decide +kernel),
    by decide +kernel⟩

/-- Both clauses, with the last pair. -/
theorem witness_PairAccessMovesBothHalves :
    (guest nv100).Inv ∧ pairRegisterOk 30#5 = true ∧
      isReg128 (guest nv100).cfg (sysRegName (guest nv100).cfg ttbr0E) = true ∧
      classifyRegAccess (guest nv100) (sysRegName (guest nv100).cfg ttbr0E) .read true =
        .unchanged ∧
      Accessible (guest nv100) (sysRegName (guest nv100).cfg ttbr0E) .read ∧
      classifyRegAccess (guest nv100) (sysRegName (guest nv100).cfg ttbr0E) .write true =
        .unchanged ∧
      Accessible (guest nv100) (sysRegName (guest nv100).cfg ttbr0E) .write :=
  ⟨inv_of_ok (by decide +kernel), by decide +kernel, by decide +kernel, by decide +kernel,
    accessible_of (by decide +kernel), by decide +kernel, accessible_of (by decide +kernel)⟩

/-- Both clauses, the second at EL1 with NV 0 and at EL3. -/
theorem witness_CurrentELReportsEL2UnderNV :
    sysRegName (guest nv111).cfg currentE = ⟨.CurrentEL, .none, 0⟩ ∧
      implemented (guest nv111).cfg ⟨.CurrentEL, .none, 0⟩ = true ∧
      ((guest nv111).pstate.el = .EL1 ∧ (guest nv111).cfg.el2Enabled = true ∧
        (effNV (guest nv111)).nv = true) ∧
      ((effNV (guest 0#64)).nv = false ∧
        Accessible (guest 0#64) ⟨.CurrentEL, .none, 0⟩ .read) ∧
      (guestAt .EL3 nv111).pstate.el ≠ .EL1 ∧
      Accessible (guestAt .EL3 nv111) ⟨.CurrentEL, .none, 0⟩ .read :=
  ⟨by decide +kernel, by decide +kernel, by decide +kernel,
    ⟨by decide +kernel, accessible_of (by decide +kernel)⟩, by decide +kernel,
    accessible_of (by decide +kernel)⟩

theorem witness_MsrWritesProcessStateBit :
    (sysRegName (guest nv110).cfg panE = ⟨.PAN, .none, 0⟩ ∧
        classifyRegAccess (guest nv110) ⟨.PAN, .none, 0⟩ .write false = .unchanged ∧
        Accessible (guest nv110) ⟨.PAN, .none, 0⟩ .write) ∧
      sysRegName (guest nv110).cfg uaoE = ⟨.UAO, .none, 0⟩ ∧
      classifyRegAccess (guest nv110) ⟨.UAO, .none, 0⟩ .write false = .unchanged ∧
      Accessible (guest nv110) ⟨.UAO, .none, 0⟩ .write :=
  ⟨⟨by decide +kernel, by decide +kernel, accessible_of (by decide +kernel)⟩, by decide +kernel,
    by decide +kernel, accessible_of (by decide +kernel)⟩

/-- Also for `HeldPairsDecideDescriptorReading`: Xt changes the resolved pair. -/
theorem witness_HcrReadsBackStoredBits :
    (guestAt .EL2 nv100).Inv ∧
      sysRegName (guestAt .EL2 nv100).cfg hcrE = ⟨.HCR, .EL2, 0⟩ ∧
      classifyRegAccess (guestAt .EL2 nv100) ⟨.HCR, .EL2, 0⟩ .write false = .unchanged ∧
      Accessible (guestAt .EL2 nv100) ⟨.HCR, .EL2, 0⟩ .write ∧
      classifyRegAccess (guestAt .EL2 nv100) ⟨.HCR, .EL2, 0⟩ .read false = .unchanged ∧
      Accessible (guestAt .EL2 nv100) ⟨.HCR, .EL2, 0⟩ .read :=
  ⟨inv_of_ok (by decide +kernel), by decide +kernel, by decide +kernel,
    accessible_of (by decide +kernel), by decide +kernel, accessible_of (by decide +kernel)⟩

/-- An MSR that changes the pair leaves the old one, a guest without held pairs, and one whose held pair
counts for nothing without FEAT_NV. -/
theorem witness_HeldPairsDecideDescriptorReading :
    (guest nv110).tlbHeldNV = [] ∧
      (let s := { guestOn (fun c => { c with haveNV := false }) nv110 with tlbHeldNV := [(true, true)] }
      s.cfg.haveNV = false ∧ regimeReading s .el10 = (false, s)) ∧
      runs (guestAt .EL2 nv110) 0xD51C111F#32
        (fun t => t.tlbHeldNV == [(true, true)] && (effNV t).nv == false) := by decide +kernel

theorem witness_AliasSharesStorage :
    (guest nv100).Inv ∧ RegBase.SCTLR ≠ .other := ⟨inv_of_ok (by decide +kernel), by decide⟩

/-- Implemented, and the last register of the list absent (B5.5). -/
theorem witness_FiveRegistersAreRedirected :
    let s := guest nv111
    let u := guestOn (fun c => { c with notImplemented := [⟨.TFSR, .EL2, 0⟩] }) nv101
    s.Inv ∧ s.cfg.regNames = [] ∧ s.pstate.el = .EL1 ∧ s.cfg.el2Enabled = true ∧
      (effNV s).nv = true ∧ (effNV s).nv2 = true ∧
      implemented s.cfg (sysRegName s.cfg tfsr2E) = true ∧ u.cfg.regNames = [] ∧
      u.pstate.el = .EL1 ∧ u.cfg.el2Enabled = true ∧ (effNV u).nv = true ∧ (effNV u).nv2 = true ∧
      implemented u.cfg (sysRegName u.cfg tfsr2E) = false :=
  ⟨inv_of_ok (by decide +kernel), by decide +kernel⟩

/-- The top bit of BADDR at both ends and the bit positions at the ends of each clause. -/
theorem witness_VncrAddressBits :
    let s := guestOn (fun c => { c with baddrHi := 12 }) nv100
    let u := guestOn (fun c => { c with baddrHi := 63 }) nv100
    12 ≤ s.cfg.baddrHi ∧ s.cfg.baddrHi ≤ 63 ∧ 12 ≤ u.cfg.baddrHi ∧ u.cfg.baddrHi ≤ 63 ∧
      (∀ k ∈ [0, 11, 12, 13, 56, 63], (vncrAddress s 0x801#12).getLsbD k =
        if k < 12 then (0x801#12).getLsbD k
        else (s.reg ⟨.VNCR, .EL2, 0⟩).getLsbD (min k s.cfg.baddrHi)) ∧
      ∀ k ∈ [0, 11, 12, 63], (vncrAddress u 0x801#12).getLsbD k =
        if k < 12 then (0x801#12).getLsbD k
        else (u.reg ⟨.VNCR, .EL2, 0⟩).getLsbD (min k u.cfg.baddrHi) := by decide +kernel

theorem witness_OffsetsAreUniqueAndAligned :
    vncrOffset .literal ⟨.PIRE0, .EL1, 0⟩ true = some 0x290#12 ∧
      vncrOffset .literal ⟨.PIRE0, .EL1, 0⟩ false = some 0x298#12 ∧
      vncrOffset .bothEL2 ⟨.AMEVCNTVOFF1, .EL2, 15⟩ true = some 0xAF8#12 ∧
      isReg128 resetConfig ⟨.TTBR1, .EL1, 0⟩ = true ∧ resetConfig.row298 = .literal ∧
      vncrOffset .literal ⟨.TTBR1, .EL1, 0⟩ true = some 0x210#12 := by decide +kernel

/-- An access to the VNCR page completes: no watchpoint is programmed, whatever the direction. -/
theorem completes_guest (off : BitVec 12) (size : Nat) (dir : Dir) (pa : Nat)
    (h : translate (guest nv101) (el2Regime (guest nv101)) false (vncrAddress (guest nv101) off) =
      .ok pa plain 3#2 true false) :
    AccessCompletes (guest nv101) off size dir pa true :=
  ⟨⟨plain, 3#2, h, by cases dir <;> rfl⟩, .inl (fun w hw => by cases hw)⟩

/-- Also for `TransformedWriteReadsBack`. -/
theorem witness_TransformedReadLoadsSlot :
    classifyRegAccess (guest nv101) (sysRegName (guest nv101).cfg hcrE) .read false =
        .transform 0x078#12 ∧
      AccessCompletes (guest nv101) 0x078#12 8 .read 0x80010078 true :=
  ⟨by decide +kernel, completes_guest _ _ _ _ (by decide +kernel)⟩

theorem witness_TransformedWriteStoresSlot :
    (guest nv101).Inv ∧
      classifyRegAccess (guest nv101) (sysRegName (guest nv101).cfg hcrE) .write false =
        .transform 0x078#12 ∧
      AccessCompletes (guest nv101) 0x078#12 8 .write 0x80010078 true :=
  ⟨inv_of_ok (by decide +kernel), by decide +kernel, completes_guest _ _ _ _ (by decide +kernel)⟩

/-- Also for `TransformedPairWriteStoresSlot`. -/
theorem witness_TransformedPairReadLoadsSlot :
    (guest nv101).Inv ∧ pairRegisterOk 30#5 = true ∧
      classifyRegAccess (guest nv101) (sysRegName (guest nv101).cfg vttbr2E) .read true =
        .transform 0x020#12 ∧
      AccessCompletes (guest nv101) 0x020#12 16 .read 0x80010020 true ∧
      classifyRegAccess (guest nv101) (sysRegName (guest nv101).cfg vttbr2E) .write true =
        .transform 0x020#12 ∧
      AccessCompletes (guest nv101) 0x020#12 16 .write 0x80010020 true :=
  ⟨inv_of_ok (by decide +kernel), by decide +kernel, by decide +kernel,
    completes_guest _ _ _ _ (by decide +kernel), by decide +kernel,
    completes_guest _ _ _ _ (by decide +kernel)⟩

theorem witness_TransformedPairWriteStoresSlot :
    (guest nv101).Inv ∧ pairRegisterOk 0#5 = true ∧
      classifyRegAccess (guest nv101) (sysRegName (guest nv101).cfg vttbr2E) .write true =
        .transform 0x020#12 ∧
      AccessCompletes (guest nv101) 0x020#12 16 .write 0x80010020 true :=
  ⟨inv_of_ok (by decide +kernel), by decide +kernel, by decide +kernel,
    completes_guest _ _ _ _ (by decide +kernel)⟩

/-- Both registers. -/
theorem witness_GuestWriteMovesNoPage :
    let s := guest nv101
    sysRegName s.cfg vncr2E = ⟨.VNCR, .EL2, 0⟩ ∧ sysRegName s.cfg hcrE = ⟨.HCR, .EL2, 0⟩ ∧
      (s.pstate.el = .EL1 ∧ s.cfg.el2Enabled = true ∧ (effNV s).nv2 = true) ∧
      (∀ r ∈ [(⟨.VNCR, .EL2, 0⟩ : RegName), ⟨.HCR, .EL2, 0⟩], implemented s.cfg r = true ∧
        undefAtEL2 s r .read = false ∧ undefAtEL2 s r .write = false ∧
        el3TrapHigher s r .read = false ∧ el3TrapHigher s r .write = false) ∧
      AccessCompletes s 0x0B0#12 8 .write 0x800100B0 true ∧
      AccessCompletes s 0x078#12 8 .write 0x80010078 true :=
  ⟨by decide +kernel, by decide +kernel, by decide +kernel, by decide +kernel,
    completes_guest _ _ _ _ (by decide +kernel), completes_guest _ _ _ _ (by decide +kernel)⟩

theorem witness_TransformedWriteReadsBack :
    ∃ t : State, (guest nv101).Inv ∧
      classifyRegAccess (guest nv101) (sysRegName (guest nv101).cfg hcrE) .write false =
        .transform 0x078#12 ∧
      classifyRegAccess (guest nv101) (sysRegName (guest nv101).cfg hcrE) .read false =
        .transform 0x078#12 ∧
      AccessCompletes (guest nv101) 0x078#12 8 .write 0x80010078 true ∧
      AccessCompletes (guest nv101) 0x078#12 8 .read 0x80010078 true ∧
      exec (.msr hcrE 0#5) (guest nv101) = .next t := by
  obtain ⟨t, ht⟩ := next_of_isNext (r := exec (.msr hcrE 0#5) (guest nv101)) (by decide +kernel)
  exact ⟨t, inv_of_ok (by decide +kernel), by decide +kernel, by decide +kernel,
    completes_guest _ _ _ _ (by decide +kernel), completes_guest _ _ _ _ (by decide +kernel), ht⟩

/-- MRS HCR_EL2 and MSRR VTTBR_EL2 are transformed, in any guest that classifies them so. -/
theorem transforms_mrs {s : State} {off : BitVec 12}
    (h : classifyRegAccess s (sysRegName s.cfg hcrE) .read false = .transform off) :
    TransformsTo s (.mrs hcrE 1#5) off 8 .read := .inl ⟨_, _, rfl, rfl, rfl, h⟩

theorem transforms_msrr {s : State} {off : BitVec 12}
    (h : classifyRegAccess s (sysRegName s.cfg vttbr2E) .write true = .transform off) :
    TransformsTo s (.msrr vttbr2E 2#5) off 16 .write :=
  .inr (.inr (.inr ⟨_, _, rfl, rfl, rfl, h⟩))

/-- 8 bytes of Write-back memory, and 16 bytes of memory that is not. -/
theorem witness_TransformedAccessEvents :
    TransformsTo (guest nv101) (.mrs hcrE 1#5) 0x078#12 8 .read ∧
      AccessCompletes (guest nv101) 0x078#12 8 .read 0x80010078 true ∧
      TransformsTo (pageGuest (.page 0x80010#52 3#2 [] 0#64 false false)) (.msrr vttbr2E 2#5)
        0x020#12 16 .write ∧
      AccessCompletes (pageGuest (.page 0x80010#52 3#2 [] 0#64 false false)) 0x020#12 16 .write
        0x80010020 false :=
  ⟨transforms_mrs (by decide +kernel), completes_guest _ _ _ _ (by decide +kernel),
    transforms_msrr (by decide +kernel),
    ⟨⟨plain, 3#2, by decide +kernel, by decide +kernel⟩, .inl (fun w hw => by cases hw)⟩⟩

/-- Both clauses. -/
theorem witness_TransformedAccessDataAbort :
    let s := pageGuest (.fault 0x07#6)
    let u := pageGuest (.page 0x80010#52 3#2 [] 0x80#64 true false)
    s.Inv ∧ TransformsTo s (.mrs hcrE 1#5) 0x078#12 8 .read ∧
      translate s (el2Regime s) false (vncrAddress s 0x078#12) = .fault 0x07#6 ∧ u.Inv ∧
      TransformsTo u (.msrr vttbr2E 2#5) 0x020#12 16 .write ∧
      translate u (el2Regime u) false (vncrAddress u 0x020#12) =
        .ok 0x80010020 ⟨some false, false, false, true⟩ 3#2 true false ∧
      dataPermitted ⟨some false, false, false, true⟩ true false .write = false :=
  ⟨inv_of_ok (by decide +kernel), transforms_mrs (by decide +kernel), by decide +kernel,
    inv_of_ok (by decide +kernel), transforms_msrr (by decide +kernel), by decide +kernel,
    by decide +kernel⟩

/-- The same page on an implementation that takes External abort to EL3. -/
def abortGuest (toEL3 : Bool) : State :=
  { pageGuest (.page 0x80010#52 3#2 [] 0#64 true true) with
    cfg := { resetConfig with haveEL3 := true, eaToEL3 := toEL3 } }

/-- Both clauses. -/
theorem witness_TransformedAccessExternalAbort (b : Bool) :
    (abortGuest b).Inv ∧ TransformsTo (abortGuest b) (.mrs hcrE 1#5) 0x078#12 8 .read ∧
      translate (abortGuest b) (el2Regime (abortGuest b)) false
        (vncrAddress (abortGuest b) 0x078#12) = .ok 0x80010078 plain 3#2 true true ∧
      dataPermitted plain true false .read = true ∧
      (∀ w ∈ (abortGuest b).dbg.watchpoints,
        watchpointMatches w (vncrAddress (abortGuest b) 0x078#12) 8 .read = false) ∧
      ((abortGuest b).cfg.haveEL3 && (abortGuest b).cfg.eaToEL3) = b := by
  cases b <;>
    exact ⟨inv_of_ok (by decide +kernel), transforms_mrs (by decide +kernel), by decide +kernel,
      by decide +kernel, by decide +kernel, by decide +kernel⟩

/-- What the three statements about watchpoints share. -/
theorem watch_premises (linked halting : Bool) :
    (watchGuest linked halting).Inv ∧
      TransformsTo (watchGuest linked halting) (.mrs hcrE 1#5) 0x078#12 8 .read ∧
      translate (watchGuest linked halting) (el2Regime (watchGuest linked halting)) false
        (vncrAddress (watchGuest linked halting) 0x078#12) = .ok 0x80010078 plain 3#2 true false ∧
      dataPermitted plain true false .read = true ∧
      (watchGuest linked halting).dbg.watchpoints = [hcrWatch linked] ∧
      watchpointMatches (hcrWatch linked) (vncrAddress (watchGuest linked halting) 0x078#12) 8
        .read = true ∧
      (watchGuest linked halting).dbg.osLockUnlocked = true := by
  cases linked <;> cases halting <;>
    exact ⟨inv_of_ok (by decide +kernel), transforms_mrs (by decide +kernel), by decide +kernel,
      by decide +kernel, by decide +kernel, by decide +kernel, by decide +kernel⟩

theorem witness_TransformedAccessWatchpointException :
    let s := watchGuest false false
    s.Inv ∧ TransformsTo s (.mrs hcrE 1#5) 0x078#12 8 .read ∧
      translate s (el2Regime s) false (vncrAddress s 0x078#12) =
        .ok 0x80010078 plain 3#2 true false ∧
      dataPermitted plain true false .read = true ∧
      hcrWatch false ∈ s.dbg.watchpoints ∧
      watchpointMatches (hcrWatch false) (vncrAddress s 0x078#12) 8 .read = true ∧
      (hcrWatch false).linkedContext = false ∧ s.dbg.osLockUnlocked = true ∧
      (s.dbg.hde && s.dbg.haltingAllowed) = false ∧ s.dbg.debugExceptionsEL2 = true :=
  ⟨(watch_premises false false).1, (watch_premises false false).2.1, (watch_premises false false).2.2.1,
    by decide +kernel⟩

theorem witness_TransformedAccessWatchpointHalts :
    let s := watchGuest false true
    s.Inv ∧ TransformsTo s (.mrs hcrE 1#5) 0x078#12 8 .read ∧
      translate s (el2Regime s) false (vncrAddress s 0x078#12) =
        .ok 0x80010078 plain 3#2 true false ∧
      dataPermitted plain true false .read = true ∧
      hcrWatch false ∈ s.dbg.watchpoints ∧
      watchpointMatches (hcrWatch false) (vncrAddress s 0x078#12) 8 .read = true ∧
      (hcrWatch false).linkedContext = false ∧ s.dbg.osLockUnlocked = true ∧
      s.dbg.hde = true ∧ s.dbg.haltingAllowed = true :=
  ⟨(watch_premises false true).1, (watch_premises false true).2.1, (watch_premises false true).2.2.1,
    by decide +kernel⟩

theorem witness_LinkedWatchpointMatchesOrNot :
    let s := watchGuest true false
    s.Inv ∧ wellFormed (.mrs hcrE 1#5) = true ∧ TransformsTo s (.mrs hcrE 1#5) 0x078#12 8 .read ∧
      translate s (el2Regime s) false (vncrAddress s 0x078#12) =
        .ok 0x80010078 plain 3#2 true false ∧
      dataPermitted plain true false .read = true ∧
      hcrWatch true ∈ s.dbg.watchpoints ∧
      watchpointMatches (hcrWatch true) (vncrAddress s 0x078#12) 8 .read = true ∧
      (∀ w ∈ s.dbg.watchpoints, watchpointMatches w (vncrAddress s 0x078#12) 8 .read = true →
        w.linkedContext = true) ∧ s.dbg.osLockUnlocked = true ∧
      (s.dbg.hde && s.dbg.haltingAllowed) = false ∧ s.dbg.debugExceptionsEL2 = true :=
  ⟨(watch_premises true false).1, rfl, (watch_premises true false).2.1, (watch_premises true false).2.2.1,
    by decide +kernel⟩

/-- Refused under NV, and transformed under NV2. -/
theorem witness_PairAccessTrappedInTheShortFormIsRefused :
    ∀ s ∈ [guest nv100, guest nv111], sysRegName s.cfg vttbr2E = ⟨.VTTBR, .EL2, 0⟩ ∧
      s.pstate.el = .EL1 ∧ s.cfg.el2Enabled = true ∧
      isReg128 s.cfg ⟨.VTTBR, .EL2, 0⟩ = true ∧ implemented s.cfg ⟨.VTTBR, .EL2, 0⟩ = true ∧
      (∀ dir ∈ [Dir.read, .write], undefAtEL2 s ⟨.VTTBR, .EL2, 0⟩ dir = false ∧
        el3TrapHigher s ⟨.VTTBR, .EL2, 0⟩ dir = false ∧
        otherTrap s (.reg ⟨.VTTBR, .EL2, 0⟩ dir) = none) ∧
      nvTrapSet ⟨.VTTBR, .EL2, 0⟩ = true ∧ (effNV s).nv = true ∧
      ((effNV s).nv2 = false ∨
        (effNV s).nv2 = true ∧
          vncrOffset s.cfg.row298 ⟨.VTTBR, .EL2, 0⟩ (effNV s).nv1 = some 0x020#12) := by
  decide +kernel

/-- A guest with a page that has bit 54 of its descriptor and bit 60 of a table set (B7c.1, B7c.6). -/
def leafGuest (hcr : Word) : State :=
  { guest hcr with
    mappings := [⟨.el10, 0x50000#52,
      .page 0x123#52 3#2 [0x1000000000000000#64] 0x40000000000000#64 true false⟩] }

/-- Both clauses. -/
theorem witness_DescriptorBitsUnderNV1 :
    (leafGuest nv110).tlbHeldNV = [] ∧ nv1Active (leafGuest nv110) = true ∧
      nv1Active (leafGuest nv100) = false ∧
      hierarchicalEnabled (leafGuest nv110) .el10 0x50000008#64 = true ∧
      walk (leafGuest nv110) .el10 0x50000008#64 =
        .page 0x123#52 3#2 [0x1000000000000000#64] 0x40000000000000#64 true false ∧
      walk (leafGuest nv100) .el10 0x50000008#64 =
        .page 0x123#52 3#2 [0x1000000000000000#64] 0x40000000000000#64 true false :=
  ⟨by rfl, by decide +kernel, by decide +kernel, by decide +kernel, by rfl, by rfl⟩

theorem witness_PanTreatedAsZeroUnderNV1 :
    nv1Active (guest nv110) = true ∧ sysRegName (guest nv110).cfg panE = ⟨.PAN, .none, 0⟩ ∧
      Accessible (guest nv110) ⟨.PAN, .none, 0⟩ .read :=
  ⟨by decide +kernel, by decide +kernel, accessible_of (by decide +kernel)⟩

theorem witness_UaoIsOneUnderNV1 :
    nv1Active (guest nv111) = true ∧ sysRegName (guest nv111).cfg uaoE = ⟨.UAO, .none, 0⟩ ∧
      Accessible (guest nv111) ⟨.UAO, .none, 0⟩ .read ∧ nv1Active (guest nv101) = false :=
  ⟨by decide +kernel, by decide +kernel, accessible_of (by decide +kernel), by decide +kernel⟩

/-- An operation of EL1 at EL1, one of EL2 at EL2, and no pair held. -/
theorem witness_AddressTranslationWritesPAR :
    let s := guest nv100
    let u := guestAt .EL2 nv100
    s.Inv ∧ u.Inv ∧ atTrapped s .S1E1RP = false ∧ s.cfg.havePAN2 = true ∧ s.pstate.el = .EL1 ∧
      otherTrap s (.sys (sysOpOfWord (encode (.at_S1E1RP 2#5)))) = none ∧ s.tlbHeldNV = [] ∧
      atTrapped u .S12E0W = false ∧ u.pstate.el = .EL2 ∧
      otherTrap u (.sys (sysOpOfWord (encode (.at_S12E0W 2#5)))) = none :=
  ⟨inv_of_ok (by decide +kernel), inv_of_ok (by decide +kernel), by decide +kernel⟩

theorem witness_TlbMaintenanceCompletes :
    tlbiOf (.tlbi_VAE2OS 4#5) = some ⟨false, true, false⟩ ∧
      TlbiNeeds.met ⟨false, true, false⟩ (guestAt .EL2 nv100).cfg ∧
      (guestAt .EL2 nv100).pstate.el = .EL2 ∧ (guestAt .EL3 nv100).pstate.el = .EL3 ∧
      otherTrap (guestAt .EL2 nv100) (.sys (sysOpOfWord (encode (.tlbi_VAE2OS 4#5)))) = none ∧
      otherTrap (guestAt .EL3 nv100) (.sys (sysOpOfWord (encode (.tlbi_VAE2OS 4#5)))) = none :=
  ⟨rfl, ⟨(fun h => nomatch h), fun _ => rfl, (fun h => nomatch h)⟩, by decide +kernel⟩

theorem witness_GuestNeverChangesEL2Registers :
    ∃ (s t : State) (r : RegName), s.pstate.el = .EL1 ∧ step s = .next t ∧ r.sfx = .EL2 ∧
      r ∉ [(⟨.ESR, .EL2, 0⟩ : RegName), ⟨.FAR, .EL2, 0⟩, ⟨.ELR, .EL2, 0⟩, ⟨.SPSR, .EL2, 0⟩] := by
  obtain ⟨t, ht⟩ := next_of_isNext (r := step (fetching (guest nv101) 0xD51C1100#32))
    (by decide +kernel)
  exact ⟨_, t, ⟨.HCR, .EL2, 0⟩, by decide +kernel, ht, rfl, by decide⟩

theorem witness_GuestReachesEL2OnlyByTheVector :
    ∃ s t : State, s.pstate.el = .EL1 ∧ step s = .next t ∧ t.pstate.el = .EL2 := by
  rcases hr : step (fetching (guest nv100) 0xD53C1101#32) with t | f | f
  · refine ⟨_, t, by decide +kernel, hr, ?_⟩
    have h : nextIs (step (fetching (guest nv100) 0xD53C1101#32))
        (fun t => t.pstate.el == .EL2) = true := by decide +kernel
    rw [hr] at h
    simpa [nextIs] using h
  · exact absurd hr (fun h => by
      have h2 : nextIs (step (fetching (guest nv100) 0xD53C1101#32)) (fun _ => true) = true := by
        decide +kernel
      rw [h] at h2; cases h2)
  · exact absurd hr (fun h => by
      have h2 : nextIs (step (fetching (guest nv100) 0xD53C1101#32)) (fun _ => true) = true := by
        decide +kernel
      rw [h] at h2; cases h2)

end Sys2Proof.Tests
end

section
/-! PROOFS. The memory side of nested virtualization (20_memory.md): the bits of `VncrAddress` (R52), the
descriptor bits that give the permissions of an EL1&0 page (R42 to R48) and PSTATE.PAN under `NV1Active`
(R49). -/

namespace Sys2Proof.Proofs

open Sys2Proof Sys2Proof.Machine

/-! ## The bits of the address of a transformed access -/

/-- Below the sign bit `n - 1` the bits stay, and from it upwards each one is the sign bit. -/
theorem getLsbD_signExtendFrom {n k : Nat} (v : Word) (hn : 0 < n) (hn64 : n ≤ 64) (hk : k < 64) :
    (signExtendFrom n v).getLsbD k = v.getLsbD (min k (n - 1)) := by
  unfold signExtendFrom
  rcases Nat.lt_or_ge k n with hlow | hhigh
  · have hmin : min k (n - 1) = k := by omega
    have hin : 64 - n + k < 64 := by omega
    have hback : 64 - n + k - (64 - n) = k := by omega
    simp [-BitVec.getLsbD_eq_getElem, BitVec.getLsbD_sshiftRight, BitVec.getLsbD_shiftLeft,
      hmin, hin, hk, hback]
  · have hmin : min k (n - 1) = n - 1 := by omega
    have hout : ¬64 - n + k < 64 := by omega
    have hsign : 63 - (64 - n) = n - 1 := by omega
    have hplace : ¬63 < 64 - n := by omega
    simp [-BitVec.getLsbD_eq_getElem, BitVec.getLsbD_sshiftRight, BitVec.getLsbD_shiftLeft,
      BitVec.msb_eq_getLsbD_last, hmin, hout, hk, hsign, hplace]

/-- VNCR_EL2 with the offset in place of its low 12 bits. -/
theorem getLsbD_base_or_offset (v : Word) (off : BitVec 12) {k : Nat} (hk : k < 64) :
    ((v &&& 0xFFFFFFFFFFFFF000#64) ||| off.setWidth 64).getLsbD k =
      if k < 12 then off.getLsbD k else v.getLsbD k := by
  have hmask : (0xFFFFFFFFFFFFF000#64).getLsbD k = decide (12 ≤ k) :=
    (by decide : ∀ j : Fin 64, (0xFFFFFFFFFFFFF000#64).getLsbD j = decide (12 ≤ j.val)) ⟨k, hk⟩
  rw [BitVec.getLsbD_or, BitVec.getLsbD_and, BitVec.getLsbD_setWidth, hmask]
  by_cases hlow : k < 12
  · simp [-BitVec.getLsbD_eq_getElem, hk, hlow]
  · simp [-BitVec.getLsbD_eq_getElem, hlow, Nat.le_of_not_lt hlow]

/-- Settles O39: sign extension reads bit `min k baddrHi` of the base with the offset in it. -/
theorem vncrAddressBits : Obligations.VncrAddressBits := by
  intro s off k hlo hhi hk
  have hmin : min k s.cfg.baddrHi < 12 ↔ k < 12 := by omega
  unfold vncrAddress
  rw [getLsbD_signExtendFrom _ (by omega) (by omega) hk, Nat.add_sub_cancel,
    getLsbD_base_or_offset _ _ (by omega)]
  simp only [hmin]
  split
  · rw [Nat.min_eq_left (by omega)]
  · rfl

/-! ## The permissions of a page -/

/-- Table descriptors count only with hierarchical permissions enabled (R46). -/
theorem any_tables (h : Bool) (ts : List Word) (f : Word → Bool) :
    (if h = true then ts else []).any f = (h && ts.any f) := by
  cases h <;> rfl

theorem permsOf_ap2 (nv1 h : Bool) (ts : List Word) (d : Word) :
    (permsOf nv1 h ts d).ap2 = (d.getLsbD 7 || (h && ts.any (fun x => x.getLsbD 62))) := by
  rw [← any_tables]; rfl

/-- Under NV1 the execute-never bits move up by one place (R42, R43, R47, R48). -/
theorem permsOf_pxn (nv1 h : Bool) (ts : List Word) (d : Word) :
    (permsOf nv1 h ts d).pxn =
      (d.getLsbD (if nv1 = true then 54 else 53) ||
        (h && ts.any (fun x => x.getLsbD (if nv1 = true then 60 else 59)))) := by
  rw [← any_tables]; cases nv1 <;> rfl

/-- Under NV1 AP[1] is treated as 0 (R45). -/
theorem permsOf_nv1_ap1 (h : Bool) (ts : List Word) (d : Word) :
    (permsOf true h ts d).ap1 = false := rfl

theorem permsOf_base_ap1 (h : Bool) (ts : List Word) (d : Word) :
    (permsOf false h ts d).ap1 = (d.getLsbD 6 && !(h && ts.any (fun x => x.getLsbD 61))) := by
  rw [← any_tables]; rfl

theorem permsOf_base_uxn (h : Bool) (ts : List Word) (d : Word) :
    (permsOf false h ts d).uxn =
      some (d.getLsbD 54 || (h && ts.any (fun x => x.getLsbD 60))) := by
  rw [← any_tables]; rfl

/-- With no pair held the EL1&0 regime reads descriptors by the current condition (R44). -/
theorem regimeReading_el10_of_nil {s : State} (h : s.tlbHeldNV = []) :
    regimeReading s .el10 = (nv1Active s, s) := by
  simp only [regimeReading, descriptorReading, usableHeldNV_nil h]

theorem translate_page {s : State} {g : Regime} {va : Word} {out : BitVec 52} {level : BitVec 2}
    {ts : List Word} {d : Word} {wb ea : Bool} (hw : walk s g va = .page out level ts d wb ea)
    (nv1 : Bool) :
    translate s g nv1 va =
      .ok (physical out va) (permsOf nv1 (hierarchicalEnabled s g va) ts d) level wb ea := by
  simp only [Machine.translate, hw]

/-- Settles O54: the walk's page has the permissions of `permsOf` under the current condition, read
field by field. -/
theorem descriptorBitsUnderNV1 : Obligations.DescriptorBitsUnderNV1 := by
  rintro s va out level ts d wb ea h hheld hwalk rfl
  rw [regimeReading_el10_of_nil hheld]
  refine ⟨_, translate_page hwalk _, permsOf_ap2 .., fun hnv1 => ?_, fun hnv1 => ?_⟩
  · rw [hnv1]
    exact ⟨permsOf_pxn .., permsOf_nv1_ap1 ..⟩
  · rw [hnv1]
    exact ⟨permsOf_pxn .., permsOf_base_uxn .., permsOf_base_ap1 ..⟩

/-! ## PSTATE.PAN in permission checks and in an SPSR image -/

theorem effPAN_of_nv1Active {s : State} (h : nv1Active s = true) : effPAN s = false := by
  rw [effPAN, h, Bool.not_true, Bool.and_false]

/-- A permission check that sees PAN as 0 applies it as 0, whatever the operation. -/
theorem atPAN_of_effPAN {s : State} (h : effPAN s = false) (op : AtOp) : atPAN s op = false := by
  unfold atPAN
  split
  · exact h
  · exact h
  · rfl

/-- Stage 1 depends on PSTATE.PAN by `atPAN` alone. -/
theorem stage1Faults_set_pan {s : State} {op : AtOp} {b : Bool}
    (h : atPAN { s with pstate := { s.pstate with pan := b } } op = atPAN s op) (nv1 : Bool)
    (va : Word) :
    stage1Faults { s with pstate := { s.pstate with pan := b } } op nv1 va =
      stage1Faults s op nv1 va := by
  have hregime : atRegime { s with pstate := { s.pstate with pan := b } } op = atRegime s op := rfl
  have hxlat (g : Regime) : translate { s with pstate := { s.pstate with pan := b } } g nv1 va =
      translate s g nv1 va := rfl
  simp only [stage1Faults, h, hregime, hxlat]

/-- PAN is bit 22 of an SPSR image (R26). -/
theorem image_getLsbD_pan (p : PState) : p.image.getLsbD 22 = p.pan := by
  simp only [PState.image, PState.imageWith, BitVec.getLsbD_append]
  simp

/-! ## MRS of a register of the base architecture -/

theorem exec_mrs (e : SysEnc) (rt : BitVec 5) (s : State) :
    exec (.mrs e rt) s = execMrs e rt s := rfl

/-- An MRS that the classifier leaves to the base architecture, of an accessible register. -/
theorem exec_mrs_accessible {s : State} {e : SysEnc} {r : RegName} (he : sysRegName s.cfg e = r)
    (hc : classifyRegAccess s r .read false = .unchanged) (ha : Accessible s r .read)
    (rt : BitVec 5) :
    exec (.mrs e rt) s = .next (((s.readReg r).2).setX rt (s.readReg r).1).advance := by
  simp only [exec_mrs, execMrs, he, hc, baseRead_accessible ha]

/-! An instruction that brings a value to Xt and goes on changes nothing else (R31, R32). -/

theorem keepsRegsBut_setX (s : State) (rt : BitVec 5) (v : Word) :
    KeepsRegsBut [] s (s.setX rt v).advance := fun r _ => by
  rw [State.reg128_advance, State.reg128_setX]

theorem keepsMemory_setX (s : State) (rt : BitVec 5) (v : Word) :
    KeepsMemory s (s.setX rt v).advance := fun a => by
  rw [State.advance_mem, State.setX_mem]

theorem continues_setX (s : State) (rt : BitVec 5) (v : Word) :
    Continues s (s.setX rt v).advance := by
  simp [Continues, KeepsSurroundings]

/-- A register other than CurrentEL (R123), outside the sets of R107, R124 and R148 and outside Table
D8-120, is left to the base architecture. -/
theorem classifyRegAccess_of_outside {s : State} {r : RegName} (hi : implemented s.cfg r = true)
    (hcur : r ≠ ⟨.CurrentEL, .none, 0⟩) (hred : redirectTarget r = none)
    (hnv : nvTrapSet r = false) (hnv1 : nv1Set r = false)
    (hoff : ∀ k nv1, vncrOffset k r nv1 = none) (dir : Dir) (is128 : Bool) :
    classifyRegAccess s r dir is128 = .unchanged := by
  have htail : classifyTail s r dir is128 = .unchanged := by
    simp [classifyTail, transformOffset, nvTrapFires, nv1TrapFires, hoff, hnv, hnv1]
  simp only [classifyRegAccess, hi, hcur, hred, htail, Bool.not_true, Bool.false_eq_true, false_and,
    if_false, ite_self]

theorem classifyRegAccess_PAN {s : State} (hi : implemented s.cfg ⟨.PAN, .none, 0⟩ = true)
    (dir : Dir) (is128 : Bool) :
    classifyRegAccess s ⟨.PAN, .none, 0⟩ dir is128 = .unchanged :=
  classifyRegAccess_of_outside hi (by decide) (by decide) (by decide) (by decide)
    (fun k nv1 => by cases k <;> cases nv1 <;> decide) dir is128

/-- A zero word with one bit set or not. -/
theorem putBit_zero (n : Nat) (b : Bool) :
    putBit 0#64 n b = if b = true then 1#64 <<< n else 0#64 := by
  cases b <;> simp [putBit]

/-- A read of PAN answers the stored bit in bit 22, whatever its Effective value (R26, R49). -/
theorem readReg_PAN (s : State) :
    s.readReg ⟨.PAN, .none, 0⟩ = (if s.pstate.pan = true then 1#64 <<< 22 else 0#64, s) := by
  rw [← putBit_zero]; rfl

/-- Settles O55: every permission check goes through `effPAN`, which is 0, and neither read of the bit
does. -/
theorem panTreatedAsZeroUnderNV1 : Obligations.PanTreatedAsZeroUnderNV1 := by
  intro s hactive
  have heff : effPAN s = false := effPAN_of_nv1Active hactive
  refine ⟨heff, fun op nv1 va => ?_, image_getLsbD_pan s.pstate, fun e rt he hacc => ?_⟩
  · have hzero : effPAN { s with pstate := { s.pstate with pan := false } } = false :=
      Bool.false_and _
    have hpan : atPAN { s with pstate := { s.pstate with pan := false } } op = atPAN s op := by
      rw [atPAN_of_effPAN hzero, atPAN_of_effPAN heff]
    exact (stage1Faults_set_pan hpan nv1 va).symm
  · have ⟨himpl, _⟩ := hacc
    have hrun := exec_mrs_accessible he (classifyRegAccess_PAN himpl .read false) hacc rt
    rw [readReg_PAN] at hrun
    exact ⟨_, hrun, loads_setX s rt _, keepsRegsBut_setX s rt _, keepsMemory_setX s rt _,
      continues_setX s rt _⟩

end Sys2Proof.Proofs
end

section
/-! PROOFS. The traps of HCR_EL2.NV at EL1 (40_nv_traps.md): register accesses (R101 to R109, R201), TLB
maintenance (R118), exception returns (R120), the read of CurrentEL (R123) and the saved SPSR_EL1.M[3:2]
(R125, R204). -/

namespace Sys2Proof.Proofs

open Sys2Proof Sys2Proof.Machine

/-! ## The syndrome of a word -/

/-- The fields of R201 and R202 side by side. -/
theorem issOfWord_eq_append (w : BitVec 32) :
    issOfWord w =
      0#3 ++ w.extractLsb' 19 2 ++ w.extractLsb' 5 3 ++ w.extractLsb' 16 3 ++ w.extractLsb' 12 4 ++
        w.extractLsb' 0 5 ++ w.extractLsb' 8 4 ++ w.extractLsb' 21 1 := by
  apply BitVec.eq_of_getLsbD_eq
  intro k hk
  simp only [issOfWord, BitVec.getLsbD_append, BitVec.getLsbD_or, BitVec.getLsbD_shiftLeft,
    BitVec.getLsbD_setWidth, BitVec.getLsbD_extractLsb']
  interval_cases k <;> simp

/-- A word of format SYSREG: bit 20, the upper bit of op0, is 1 and bit 21 is the direction (R71). -/
theorem issOfWord_sysRegWord {top : BitVec 12} {dir : Dir} (hop0 : top.extractLsb' 0 1 = 1#1)
    (hdir : top.extractLsb' 1 1 = dirBit dir) (e : SysEnc) (rt : BitVec 5) :
    issOfWord (sysRegWord top e rt) = issSysreg e rt dir := by
  rw [issOfWord_eq_append, issSysreg, ← hop0, ← hdir]
  apply BitVec.eq_of_getLsbD_eq
  intro k hk
  simp only [sysRegWord, BitVec.getLsbD_append, BitVec.getLsbD_extractLsb']
  interval_cases k <;> simp

/-- A base word of format SYS: op0, in bits [20:19], is 1, bit 21 says a write and Rt is empty (R73). -/
def IsSysBase (base : BitVec 32) : Prop :=
  base.extractLsb' 0 5 = 0#5 ∧ base.extractLsb' 19 2 = 1#2 ∧ base.extractLsb' 21 1 = 0#1

/-- Rt fills bits [4:0] of a base word and no other bit. -/
theorem extractLsb'_sysWord (base : BitVec 32) (rt : BitVec 5) {start : Nat} (h : 5 ≤ start)
    (len : Nat) : (sysWord base rt).extractLsb' start len = base.extractLsb' start len := by
  apply BitVec.eq_of_getLsbD_eq
  intro k hk
  have hout : rt.getLsbD (start + k) = false := BitVec.getLsbD_of_ge _ _ (by omega)
  simp [sysWord, BitVec.getLsbD_extractLsb', -BitVec.getLsbD_eq_getElem, hout, hk]

theorem extractLsb'_sysWord_rt {base : BitVec 32} (h : base.extractLsb' 0 5 = 0#5) (rt : BitVec 5) :
    (sysWord base rt).extractLsb' 0 5 = rt := by
  rw [sysWord, BitVec.extractLsb'_or, h, BitVec.zero_or,
    ← BitVec.setWidth_eq_extractLsb' (by decide),
    BitVec.setWidth_setWidth_of_le _ (by decide), BitVec.setWidth_eq]

theorem issOfWord_sysWord {base : BitVec 32} (h : IsSysBase base) (rt : BitVec 5) :
    issOfWord (sysWord base rt) = issSys (sysOpOfWord base) rt := by
  obtain ⟨hrt, hop0, hdir⟩ := h
  rw [issOfWord_eq_append, extractLsb'_sysWord_rt hrt]
  simp only [extractLsb'_sysWord base rt, Nat.reduceLeDiff, hop0, hdir]
  rfl

/-! ## MRS and MSR of a register that NV traps -/

theorem exec_msr (e : SysEnc) (rt : BitVec 5) (s : State) :
    exec (.msr e rt) s = execMsr e rt s := rfl

/-- MRS and MSR take the trap that the classifier answers, with the syndrome of their word. -/
theorem exec_of_trapEL2 {s : State} {i : Instr} {e : SysEnc} {rt : BitVec 5} {dir : Dir}
    (hi : (i = .mrs e rt ∧ dir = .read) ∨ (i = .msr e rt ∧ dir = .write)) {ec : BitVec 6}
    (hc : classifyRegAccess s (sysRegName s.cfg e) dir false = .trapEL2 ec) :
    exec i s = .next (trapToEL2 ec (issOfWord (encode i)) s) := by
  rcases hi with ⟨rfl, rfl⟩ | ⟨rfl, rfl⟩
  · have hiss : issOfWord (encode (.mrs e rt)) = issSysreg e rt .read :=
      issOfWord_sysRegWord (by decide) (by decide) e rt
    simp only [exec_mrs, execMrs, hc, hiss]
  · have hiss : issOfWord (encode (.msr e rt)) = issSysreg e rt .write :=
      issOfWord_sysRegWord (by decide) (by decide) e rt
    simp only [exec_msr, execMsr, hc, hiss]

/-- The five classes of R101 (R102 to R106). -/
theorem nvTrapSet_iff (r : RegName) :
    nvTrapSet r = true ↔
      (r.sfx = .EL2 ∧
          r ∉ [(⟨.SP, .EL2, 0⟩ : RegName), ⟨.MECIDR, .EL2, 0⟩, ⟨.MECID_A0, .EL2, 0⟩,
            ⟨.MECID_A1, .EL2, 0⟩, ⟨.MECID_P0, .EL2, 0⟩, ⟨.MECID_P1, .EL2, 0⟩,
            ⟨.VMECID_A, .EL2, 0⟩, ⟨.VMECID_P, .EL2, 0⟩]) ∨
        r.sfx = .EL12 ∨ r.sfx = .EL02 ∨
        r ∈ [(⟨.SPSR_irq, .none, 0⟩ : RegName), ⟨.SPSR_abt, .none, 0⟩, ⟨.SPSR_und, .none, 0⟩,
          ⟨.SPSR_fiq, .none, 0⟩, ⟨.SP, .EL1, 0⟩] := by
  simp only [nvTrapSet, namedEL2, nvExempt, namedEL12, namedEL02, isBankedSPSR, Bool.or_eq_true,
    Bool.and_eq_true, Bool.not_eq_true', Bool.or_eq_false_iff, beq_iff_eq, beq_eq_false_iff_ne,
    List.mem_cons, List.not_mem_nil, or_false, not_or, and_assoc, or_assoc]

theorem nvTrapFires_iff (s : State) (r : RegName) (dir : Dir) :
    nvTrapFires s r dir = true ↔
      s.pstate.el = .EL1 ∧ (effNV s).nv = true ∧ nvTrapSet r = true ∧ undefAtEL2 s r dir = false ∧
        el3TrapHigher s r dir = false := by
  simp only [nvTrapFires, Bool.and_eq_true, beq_iff_eq, Bool.not_eq_true', and_assoc]

theorem transformOffset_of_nv2_false {s : State} (h : (effNV s).nv2 = false) (r : RegName) :
    transformOffset s r = none := by
  simp [transformOffset, nv2Active, h]

theorem effNV_nv2_of_nv_false {s : State} (h : (effNV s).nv = false) : (effNV s).nv2 = false :=
  Bool.eq_false_iff.2 (mt effNV_nv2_nv (Bool.eq_false_iff.1 h))

theorem transformOffset_of_vncrOffset_none {s : State} {r : RegName}
    (h : vncrOffset s.cfg.row298 r (effNV s).nv1 = none) : transformOffset s r = none := by
  rw [transformOffset, h, ite_self]

/-- An access that NV traps and that has no offset is trapped with class 0x18 (R108, R109). -/
theorem classifyTail_of_nvTrap {s : State} {r : RegName} {dir : Dir}
    (hoff : transformOffset s r = none) (hf : nvTrapFires s r dir = true) :
    classifyTail s r dir false = .trapEL2 0x18#6 := by
  simp [classifyTail, hoff, hf]

/-- At EL1 under NV an implemented register that no rule reads as a constant (R123) or redirects (R148)
comes to the last part of R170. -/
theorem classifyRegAccess_eq_tail_under_nv {s : State} {r : RegName} {dir : Dir}
    (himpl : implemented s.cfg r = true) (hel : s.pstate.el = .EL1) (hnv : (effNV s).nv = true)
    (hcur : r ≠ ⟨.CurrentEL, .none, 0⟩)
    (hred : (effNV s).nv2 = true → redirectTarget r = none) :
    classifyRegAccess s r dir false = classifyTail s r dir false := by
  have hel2 := effNV_el2Enabled (.inl hnv)
  have hfeat := effNV_haveNV (.inl hnv)
  cases hnv2 : (effNV s).nv2 with
  | false =>
    simp only [classifyRegAccess, hel, hel2, hfeat, himpl, hcur, hnv2, ne_eq, not_true_eq_false,
      Bool.true_eq_false, or_self, if_false, Bool.false_and, Bool.and_false, Bool.not_true,
      Bool.false_eq_true, false_and]
  | true =>
    simp only [classifyRegAccess, hel, hel2, hfeat, himpl, hcur, hred hnv2, ne_eq,
      not_true_eq_false, Bool.true_eq_false, or_self, if_false, Bool.false_and, Bool.not_true,
      Bool.false_eq_true, false_and, ite_self]

/-- The NV trap is the outcome unless FEAT_NV2 redirects or transforms the access (R160, R165). -/
theorem classifyRegAccess_of_nvTrap {s : State} {r : RegName} {dir : Dir}
    (himpl : implemented s.cfg r = true) (hf : nvTrapFires s r dir = true)
    (hnv2 : (effNV s).nv2 = false ∨
      (redirectTarget r = none ∧ vncrOffset s.cfg.row298 r (effNV s).nv1 = none)) :
    classifyRegAccess s r dir false = .trapEL2 0x18#6 := by
  obtain ⟨hel, hnv, hset, -, -⟩ := (nvTrapFires_iff s r dir).1 hf
  have hcur : r ≠ ⟨.CurrentEL, .none, 0⟩ := by
    rintro rfl
    exact absurd hset (by decide)
  rcases hnv2 with hnv2 | ⟨hred, hoff⟩
  · rw [classifyRegAccess_eq_tail_under_nv himpl hel hnv hcur (by simp [hnv2])]
    exact classifyTail_of_nvTrap (transformOffset_of_nv2_false hnv2 r) hf
  · rw [classifyRegAccess_eq_tail_under_nv himpl hel hnv hcur (fun _ => hred)]
    exact classifyTail_of_nvTrap (transformOffset_of_vncrOffset_none hoff) hf

/-- Settles O16: the classifier answers the trap, and the trap is the entry of R213. -/
theorem nvTrapsRegisterAccess : Obligations.NvTrapsRegisterAccess := by
  rintro s i e rt dir r hi rfl hclass ⟨-, hwf, -⟩ hel - hnv hnv2 himpl hundef hel3
  have hfires : nvTrapFires s (sysRegName s.cfg e) dir = true :=
    (nvTrapFires_iff s _ dir).2 ⟨hel, hnv, (nvTrapSet_iff _).2 hclass, hundef, hel3⟩
  exact ⟨_, exec_of_trapEL2 hi (classifyRegAccess_of_nvTrap himpl hfires hnv2),
    trapToEL2_traps _ _ hwf hel⟩

/-! ## TLB maintenance -/

/-- A TLBI operation is one call of `tlbMaintenance`, with its features (R79) and the operation fields of
its word (R73). -/
theorem exec_tlbi {i : Instr} {n : TlbiNeeds} (h : tlbiOf i = some n) (s : State) :
    ∃ base rt, IsSysBase base ∧ encode i = sysWord base rt ∧
      exec i s =
        tlbMaintenance (tlbiPresent s.cfg n.range n.os n.nxs) (sysOpOfWord base) rt s := by
  cases i <;> cases h
  all_goals exact ⟨_, _, ⟨by decide, by decide, by decide⟩, rfl, rfl⟩

theorem tlbiPresent_iff (n : TlbiNeeds) (c : Config) :
    tlbiPresent c n.range n.os n.nxs = true ↔ n.met c := by
  simp only [tlbiPresent, TlbiNeeds.met, Bool.and_eq_true, Bool.or_eq_true, Bool.not_eq_true',
    ← Bool.not_eq_true, ← imp_iff_not_or, and_assoc]

theorem underEL2_iff (s : State) :
    underEL2 s = true ↔ s.pstate.el = .EL1 ∧ s.cfg.el2Enabled = true := by
  simp only [underEL2, Bool.and_eq_true, beq_iff_eq]

theorem tlbMaintenance_of_nv {s : State} (hu : underEL2 s = true) (hnv : (effNV s).nv = true)
    (op : SysOp) (rt : BitVec 5) :
    tlbMaintenance true op rt s = .next (trapToEL2 0x18#6 (issSys op rt) s) := by
  simp [tlbMaintenance, tlbiTrapped, hu, hnv]

/-- Settles O19: an operation whose features are present meets the trap of R118 before anything else. -/
theorem tlbMaintenanceTraps : Obligations.TlbMaintenanceTraps := by
  rintro s i n htlbi hmet ⟨-, hwf, -⟩ hel hel2 hnv
  obtain ⟨base, rt, hbase, hword, hrun⟩ := exec_tlbi htlbi s
  rw [(tlbiPresent_iff n s.cfg).2 hmet,
    tlbMaintenance_of_nv ((underEL2_iff s).2 ⟨hel, hel2⟩) hnv] at hrun
  rw [hword, issOfWord_sysWord hbase]
  exact ⟨_, hrun, trapToEL2_traps _ _ hwf hel⟩

/-! ## Exception return -/

theorem eretTrapped_iff (s : State) :
    eretTrapped s = true ↔
      s.pstate.el = .EL1 ∧ s.cfg.el2Enabled = true ∧ (effNV s).nv = true := by
  simp only [eretTrapped, Bool.and_eq_true, underEL2_iff, and_assoc]

theorem eretWith_of_trapped {s : State} (h : eretTrapped s = true) (kind : EretKind) (addr : Word) :
    eretWith kind addr s = trapToEL2 0x1A#6 (issEret kind) s :=
  if_pos h

/-- With FEAT_PAuth the trap comes before the authentication (R121, R122). -/
theorem authenticated_of_trapped {s : State} (h : eretTrapped s = true)
    (hp : s.cfg.havePAuth = true) (kind : EretKind) :
    authenticated kind s = trapToEL2 0x1A#6 (issEret kind) s := by
  simp [authenticated, h, hp]

theorem exec_eret (s : State) :
    exec .eret s = .next (eretWith .eret (s.reg ⟨.ELR, elSuffix s.pstate.el, 0⟩) s) := rfl

theorem exec_eretaa (s : State) : exec .eretaa s = .next (authenticated .eretaa s) := rfl

theorem exec_eretab (s : State) : exec .eretab s = .next (authenticated .eretab s) := rfl

/-- Settles O20: the trap of R120 is the first check of the three instructions, but for FEAT_PAuth. -/
theorem exceptionReturnTraps : Obligations.ExceptionReturnTraps := by
  rintro s ⟨-, hwf, -⟩ hel hel2 hnv
  have htrap : eretTrapped s = true := (eretTrapped_iff s).2 ⟨hel, hel2, hnv⟩
  have hentry (iss : BitVec 25) : TrapsToEL2 0x1A#6 iss s (trapToEL2 0x1A#6 iss s) :=
    trapToEL2_traps _ iss hwf hel
  rw [exec_eret, eretWith_of_trapped htrap]
  refine ⟨⟨_, rfl, hentry _⟩, fun hp => ?_⟩
  rw [exec_eretaa, exec_eretab, authenticated_of_trapped htrap hp,
    authenticated_of_trapped htrap hp]
  exact ⟨⟨_, rfl, hentry _⟩, ⟨_, rfl, hentry _⟩⟩

/-! ## The mode field of a saved image -/

/-- M[3:2] of an SPSR image (R25). -/
theorem imageWith_extract_m32 (p : PState) (m : BitVec 2) :
    (p.imageWith m).extractLsb' 2 2 = m := by
  apply BitVec.eq_of_getLsbD_eq
  intro k hk
  simp only [PState.imageWith, BitVec.getLsbD_append, BitVec.getLsbD_extractLsb']
  interval_cases k <;> simp

theorem image_extract_m32 (p : PState) : p.image.extractLsb' 2 2 = p.el.bits :=
  imageWith_extract_m32 p _

/-- No other bit of an SPSR image depends on M[3:2]. -/
theorem imageWith_getLsbD_other (p : PState) (m n : BitVec 2) {k : Nat} (h2 : k ≠ 2) (h3 : k ≠ 3) :
    (p.imageWith m).getLsbD k = (p.imageWith n).getLsbD k := by
  simp only [PState.imageWith, BitVec.getLsbD_append]
  rcases (by omega : k = 0 ∨ k = 1 ∨ 4 ≤ k) with rfl | rfl | h4
  · simp
  · simp
  · simp [show ¬k < 1 by omega, show ¬k - 1 - 1 < 2 by omega]

/-- The field of R125 and R204, with the condition as the rules write it. -/
theorem spsrEL1M32_eq (e : Eff) :
    spsrEL1M32 e =
      if (e.nv = true ∧ e.nv1 = false) ∨ (e.nv = true ∧ e.nv2 = true) then 0b10#2 else 0b01#2 := by
  simp only [spsrEL1M32, ← and_or_left, Bool.and_eq_true, Bool.or_eq_true, Bool.not_eq_true']

theorem savedImage_EL1_EL1 {s : State} (h : s.pstate.el = .EL1) :
    savedImage s .EL1 = s.pstate.imageWith (spsrEL1M32 (effNV s)) :=
  if_pos ⟨h, rfl⟩

theorem savedImage_of_not_EL1_EL1 {s : State} {l : EL} (h : ¬(s.pstate.el = .EL1 ∧ l = .EL1)) :
    savedImage s l = s.pstate.image :=
  if_neg h

/-- Settles O24: SPSR receives the saved image, whose M[3:2] is `spsrEL1M32` from EL1 to EL1 and the level
everywhere else. -/
theorem savedModeFieldUnderNV : Obligations.SavedModeFieldUnderNV := by
  rintro s x ⟨-, hwf, -⟩
  refine ⟨fun hel htgt => ?_, fun hel htgt => ?_, fun hel htgt => ?_⟩
  · have hl : excTarget x.target s.pstate.el = .EL1 := by rw [hel]; exact htgt
    have hspsr : (takeException x s).reg ⟨.SPSR, .EL1, 0⟩ = savedImage s .EL1 :=
      takeException_SPSR x hwf hl rfl
    rw [hspsr, savedImage_EL1_EL1 hel, imageWith_extract_m32, spsrEL1M32_eq]
    exact ⟨rfl, fun k h2 h3 => imageWith_getLsbD_other _ _ _ h2 h3, hl⟩
  · have hl : excTarget x.target s.pstate.el = .EL1 := by rw [hel]; exact htgt
    have hspsr : (takeException x s).reg ⟨.SPSR, .EL1, 0⟩ = savedImage s .EL1 :=
      takeException_SPSR x hwf hl rfl
    rw [hspsr, savedImage_of_not_EL1_EL1 (by simp [hel]), image_extract_m32, hel]
    rfl
  · have hl : excTarget x.target s.pstate.el = .EL2 := by rw [hel, htgt]; rfl
    have hspsr : (takeException x s).reg ⟨.SPSR, .EL2, 0⟩ = savedImage s .EL2 :=
      takeException_SPSR x hwf hl rfl
    rw [hspsr, savedImage_of_not_EL1_EL1 (by simp), image_extract_m32, hel]
    rfl

/-! ## CurrentEL -/

theorem events_setX (s : State) (rt : BitVec 5) (v : Word) :
    (s.setX rt v).advance.events = s.events := by
  rw [State.advance_events, State.setX_events]

theorem classifyRegAccess_CurrentEL_under_nv {s : State}
    (hi : implemented s.cfg ⟨.CurrentEL, .none, 0⟩ = true) (hel : s.pstate.el = .EL1)
    (hnv : (effNV s).nv = true) :
    classifyRegAccess s ⟨.CurrentEL, .none, 0⟩ .read false = .readAs 0x8#64 := by
  have hel2 := effNV_el2Enabled (.inl hnv)
  have hfeat := effNV_haveNV (.inl hnv)
  simp only [classifyRegAccess, hi, hel, hnv, hel2, hfeat, ne_eq, not_true_eq_false,
    Bool.true_eq_false, or_self, if_false, Bool.false_and, Bool.not_true, Bool.false_eq_true,
    and_self, if_true]

/-- Without NV at EL1 a read of CurrentEL is the base architecture's, with the choice `TrapOnly` too. -/
theorem classifyRegAccess_CurrentEL_without_nv {s : State}
    (hi : implemented s.cfg ⟨.CurrentEL, .none, 0⟩ = true)
    (hnv : s.pstate.el = .EL1 → (effNV s).nv = false) :
    classifyRegAccess s ⟨.CurrentEL, .none, 0⟩ .read false = .unchanged := by
  by_cases hel : s.pstate.el = .EL1
  · have hoff : transformOffset s ⟨.CurrentEL, .none, 0⟩ = none :=
      transformOffset_of_nv2_false (effNV_nv2_of_nv_false (hnv hel)) _
    have hnv1 : nv1Set ⟨.CurrentEL, .none, 0⟩ = false := by decide
    have htail : classifyTail s ⟨.CurrentEL, .none, 0⟩ .read false = .unchanged := by
      simp only [classifyTail, hoff, nvTrapFires, nv1TrapFires, hnv hel, hnv1, Bool.and_false,
        Bool.false_and, Bool.or_self, Bool.false_eq_true, if_false]
    simp only [classifyRegAccess, hi, hnv hel, htail, Bool.false_and, Bool.not_true,
      Bool.false_eq_true, and_false, if_false, ite_self]
  · simp [classifyRegAccess, hel]

/-- A read of CurrentEL answers the level in bits [3:2] (R24). -/
theorem readReg_CurrentEL (s : State) :
    s.readReg ⟨.CurrentEL, .none, 0⟩ = (BitVec.ofNat 64 (4 * s.pstate.el.num), s) := by
  have hview : s.readReg ⟨.CurrentEL, .none, 0⟩ = (0#60 ++ s.pstate.el.bits ++ 0#2, s) := rfl
  rw [hview]
  cases s.pstate.el <;> rfl

/-- Settles O33: under NV the classifier answers the constant, elsewhere the base architecture reads the
level; both bring a value to Xt and change nothing else. -/
theorem currentELReportsEL2UnderNV : Obligations.CurrentELReportsEL2UnderNV := by
  intro s e rt he hi
  refine ⟨fun hel _ hnv => ?_, fun hnv hacc => ?_⟩
  · have hrun : exec (.mrs e rt) s = .next (s.setX rt 0x8#64).advance := by
      simp only [exec_mrs, execMrs, he, classifyRegAccess_CurrentEL_under_nv hi hel hnv]
    exact ⟨_, hrun, loads_setX s rt _, keepsRegsBut_setX s rt _, keepsMemory_setX s rt _,
      continues_setX s rt _, events_setX s rt _⟩
  · have hrun := exec_mrs_accessible he (classifyRegAccess_CurrentEL_without_nv hi hnv) hacc rt
    rw [readReg_CurrentEL] at hrun
    exact ⟨_, hrun, loads_setX s rt _, keepsRegsBut_setX s rt _, keepsMemory_setX s rt _,
      continues_setX s rt _, events_setX s rt _⟩

end Sys2Proof.Proofs
end

section
/-! PROOFS. The traps of AT operations at EL1 (41_hcr_at.md): those accessible only from EL2 under HCR_EL2.NV
(R110 to R117) and those executable at EL1 under HCR_EL2.AT (R135 to R142). -/

namespace Sys2Proof.Proofs

open Sys2Proof Sys2Proof.Machine

/-- An AT operation is one call of `addressTranslation`, with the operation fields of its word (R73). -/
theorem exec_at {i : Instr} {op : AtOp} (h : atOf i = some op) (s : State) :
    ∃ base rt, IsSysBase base ∧ encode i = sysWord base rt ∧
      exec i s = addressTranslation op (sysOpOfWord base) rt s := by
  cases i <;> cases h
  all_goals exact ⟨_, _, ⟨by decide, by decide, by decide⟩, rfl, rfl⟩

/-! ## The two sets of operations -/

/-- The operations of R111 to R117; S1E2A is one with FEAT_ATS1A only. -/
theorem atEL2Only_iff (c : Config) (op : AtOp) :
    atEL2Only c op = true ↔
      op ∈ [AtOp.S1E2R, .S1E2W, .S12E1R, .S12E1W, .S12E0R, .S12E0W, .S1E2A] ∧
        (op = .S1E2A → c.haveATS1A = true) := by
  cases op <;> simp [atEL2Only]

/-- The operations of R136 to R142; S1E1A is one with FEAT_ATS1A only. -/
theorem hcrAtSet_iff (c : Config) (op : AtOp) :
    hcrAtSet c op = true ↔
      op ∈ [AtOp.S1E0R, .S1E0W, .S1E1R, .S1E1W, .S1E1RP, .S1E1WP, .S1E1A] ∧
        (op = .S1E1A → c.haveATS1A = true) := by
  cases op <;> simp [hcrAtSet]

theorem effAT_iff (s : State) :
    effAT s = true ↔ s.cfg.haveNV = true ∧ s.cfg.el2Enabled = true ∧ s.hcr 44 = true := by
  simp only [effAT, Bool.and_eq_true, and_assoc]

/-! ## The trap -/

/-- The two controls do not depend on each other: NV traps one set, HCR_EL2.AT the other. -/
theorem atTrapped_iff (s : State) (op : AtOp) :
    atTrapped s op = true ↔
      underEL2 s = true ∧
        (((effNV s).nv = true ∧ atEL2Only s.cfg op = true) ∨
          (effAT s = true ∧ hcrAtSet s.cfg op = true)) := by
  simp only [atTrapped, Bool.and_eq_true, Bool.or_eq_true]

/-- The trap comes before the translation, which alone writes PAR_EL1 (92 D10). -/
theorem addressTranslation_of_trapped {s : State} {op : AtOp} (h : atTrapped s op = true)
    (enc : SysOp) (rt : BitVec 5) :
    addressTranslation op enc rt s = .next (trapToEL2 0x18#6 (issSys enc rt) s) := by
  rw [addressTranslation, if_pos h]

/-- Settles O18: an operation of either set meets its trap before anything else, and the trap is the entry
of R213. -/
theorem addressTranslationTraps : Obligations.AddressTranslationTraps := by
  rintro s i op hat ⟨-, hwf, -⟩ hel hel2 hfeat hcase
  have htrap : atTrapped s op = true := by
    refine (atTrapped_iff s op).2 ⟨(underEL2_iff s).2 ⟨hel, hel2⟩, ?_⟩
    rcases hcase with ⟨hnv, hop⟩ | ⟨hhave, hbit, hop⟩
    · have hset : atEL2Only s.cfg op = true :=
        (atEL2Only_iff s.cfg op).2 ⟨hop, fun h => hfeat (by simp [h])⟩
      exact .inl ⟨hnv, hset⟩
    · have hset : hcrAtSet s.cfg op = true :=
        (hcrAtSet_iff s.cfg op).2 ⟨hop, fun h => hfeat (by simp [h])⟩
      exact .inr ⟨(effAT_iff s).2 ⟨hhave, hel2, hbit⟩, hset⟩
  obtain ⟨base, rt, hbase, hword, hrun⟩ := exec_at hat s
  rw [addressTranslation_of_trapped htrap] at hrun
  rw [hword, issOfWord_sysWord hbase]
  exact ⟨_, hrun, trapToEL2_traps _ _ hwf hel⟩

end Sys2Proof.Proofs
end

section
/-! PROOFS. The decoder and the encoder (30_encoding.md): each format's word is taken apart into the fields
it was made of (R71 to R75), and each row of format SYS is found by its base word (R78, R79). -/

namespace Sys2Proof.Proofs

open Sys2Proof Sys2Proof.Machine

/-! ## The four bytes of a word -/

theorem wordOfBytes_extract (w : BitVec 32) :
    wordOfBytes (w.extractLsb' 0 8) (w.extractLsb' 8 8) (w.extractLsb' 16 8) (w.extractLsb' 24 8) =
      w := by
  apply BitVec.eq_of_getLsbD_eq
  intro k hk
  simp only [wordOfBytes, BitVec.getLsbD_append, BitVec.getLsbD_extractLsb']
  interval_cases k <;> simp

/-- The decoder reads one word from the first four bytes (R70). -/
theorem decode_bytesOfWord {w : BitVec 32} {i : Instr} (h : decodeWord w = .ok i)
    (rest : List Byte) : decode (bytesOfWord w ++ rest) = .ok (i, rest) := by
  simp only [bytesOfWord, List.cons_append, List.nil_append, decode, wordOfBytes_extract, h]

/-! ## Words of format SYSREG and SYSREG128 (R71, R72) -/

theorem sysRegWord_top (top : BitVec 12) (e : SysEnc) (rt : BitVec 5) :
    (sysRegWord top e rt).extractLsb' 20 12 = top := by
  apply BitVec.eq_of_getLsbD_eq
  intro k hk
  simp only [sysRegWord, BitVec.getLsbD_append, BitVec.getLsbD_extractLsb']
  interval_cases k <;> simp

theorem rtOf_sysRegWord (top : BitVec 12) (e : SysEnc) (rt : BitVec 5) :
    rtOf (sysRegWord top e rt) = rt := by
  apply BitVec.eq_of_getLsbD_eq
  intro k hk
  simp only [rtOf, sysRegWord, BitVec.getLsbD_append, BitVec.getLsbD_extractLsb']
  interval_cases k <;> simp

theorem sysEncOf_sysRegWord (top : BitVec 12) (e : SysEnc) (rt : BitVec 5) :
    sysEncOf (sysRegWord top e rt) = e := by
  obtain ⟨o0, op1, crn, crm, op2⟩ := e
  simp only [sysEncOf, sysRegWord, SysEnc.mk.injEq]
  refine ⟨?_, ?_, ?_, ?_, ?_⟩ <;> apply BitVec.eq_of_getLsbD_eq <;> intro k hk <;>
    simp only [BitVec.getLsbD_append, BitVec.getLsbD_extractLsb'] <;> interval_cases k <;> simp

/-- A word is made of its upper twelve bits, its register operand and Rt. -/
theorem sysRegWord_fields (w : BitVec 32) :
    sysRegWord (w.extractLsb' 20 12) (sysEncOf w) (rtOf w) = w := by
  apply BitVec.eq_of_getLsbD_eq
  intro k hk
  simp only [sysRegWord, sysEncOf, rtOf, BitVec.getLsbD_append, BitVec.getLsbD_extractLsb']
  interval_cases k <;> simp

theorem decodePair_sysRegWord (f : SysEnc → BitVec 5 → Instr) (top : BitVec 12) (e : SysEnc)
    {rt : BitVec 5} (h : pairRegisterOk rt = true) :
    decodePair f (sysRegWord top e rt) = .ok (f e rt) := by
  have hrt : rt &&& 1#5 = 0#5 := by simpa [pairRegisterOk] using h
  simp only [decodePair, rtOf_sysRegWord, sysEncOf_sysRegWord, hrt, if_true]

/-- MRRS and MSRR are accepted with an even Rt and with no other (R72). -/
theorem decodePair_eq_ok {f : SysEnc → BitVec 5 → Instr} {w : BitVec 32} {i : Instr}
    (h : decodePair f w = .ok i) : pairRegisterOk (rtOf w) = true ∧ i = f (sysEncOf w) (rtOf w) := by
  unfold decodePair at h
  split at h
  · rename_i hrt
    cases h
    exact ⟨by simp [pairRegisterOk, hrt], rfl⟩
  · cases h

/-! ## Words of format SYS (R73) -/

/-- The bits that find a row: the word without Rt. -/
theorem sysWord_masked_fields (w : BitVec 32) : sysWord (w &&& 0xFFFFFFE0#32) (rtOf w) = w := by
  apply BitVec.eq_of_getLsbD_eq
  intro k hk
  have hmask : (0xFFFFFFE0#32).getLsbD k = decide (5 ≤ k) :=
    (by decide : ∀ j : Fin 32, (0xFFFFFFE0#32).getLsbD j = decide (5 ≤ j.val)) ⟨k, hk⟩
  simp only [sysWord, rtOf, BitVec.getLsbD_or, BitVec.getLsbD_and, BitVec.getLsbD_setWidth, hmask,
    BitVec.getLsbD_extractLsb']
  by_cases h5 : k < 5
  · simp [-BitVec.getLsbD_eq_getElem, hk, h5, Nat.not_le_of_lt h5]
  · simp [-BitVec.getLsbD_eq_getElem, h5, Nat.le_of_not_lt h5]

theorem rtOf_sysWord {base : BitVec 32} (h : base &&& 0xFFFFFFE0#32 = base) (rt : BitVec 5) :
    rtOf (sysWord base rt) = rt := by
  refine extractLsb'_sysWord_rt ?_ rt
  rw [← h, BitVec.extractLsb'_and]
  exact BitVec.and_zero

/-- A row of format SYS is found by its base word, whatever Rt is. -/
theorem decodeWord_sysWord {base : BitVec 32} {f : BitVec 5 → Instr}
    (hmask : base &&& 0xFFFFFFE0#32 = base) (htop : base.extractLsb' 20 12 = 0xD50#12)
    (hrow : sysRows.find? (fun p => p.1 == base) = some (base, f)) (rt : BitVec 5) :
    decodeWord (sysWord base rt) = .ok (f rt) := by
  have hsys : decodeSys (sysWord base rt) = .ok (f rt) := by
    simp only [decodeSys, Laws.sysWord_fixed hmask, hrow, rtOf_sysWord hmask]
  have htop' : (sysWord base rt).extractLsb' 20 12 = 0xD50#12 := by
    rw [extractLsb'_sysWord base rt (by decide), htop]
  simp [decodeWord, htop', hsys]

/-- What a row of format SYS says: its instructions are well formed and have its base word. -/
def RowEncodes (p : BitVec 32 × (BitVec 5 → Instr)) : Prop :=
  ∀ rt, wellFormed (p.2 rt) = true ∧ encode (p.2 rt) = sysWord p.1 rt

theorem sysRows_encode : ∀ p ∈ sysRows, RowEncodes p := by
  refine List.forall_iff_forall_mem.1 ?_
  repeat' apply And.intro
  all_goals exact fun rt => ⟨rfl, rfl⟩

theorem encode_of_decodeSys {w : BitVec 32} {i : Instr} (h : decodeSys w = .ok i) :
    wellFormed i = true ∧ encode i = w := by
  unfold decodeSys at h
  split at h
  · rename_i p hp
    cases h
    obtain ⟨hwf, henc⟩ := sysRows_encode p (List.mem_of_find?_eq_some hp) (rtOf w)
    have hkey := List.find?_some hp
    rw [beq_iff_eq] at hkey
    rw [henc, hkey, sysWord_masked_fields]
    exact ⟨hwf, rfl⟩
  · cases h

/-! ## SMC (R75) -/

theorem smc_fields (imm : BitVec 16) :
    (encode (.smc imm)).extractLsb' 21 11 = 0x6A0#11 ∧ (encode (.smc imm)).extractLsb' 0 5 = 3#5 ∧
      (encode (.smc imm)).extractLsb' 5 16 = imm := by
  refine ⟨?_, ?_, ?_⟩ <;> apply BitVec.eq_of_getLsbD_eq <;> intro k hk <;>
    simp only [encode, BitVec.getLsbD_append, BitVec.getLsbD_extractLsb'] <;>
    interval_cases k <;> simp

theorem smc_of_fields {w : BitVec 32} (htop : w.extractLsb' 21 11 = 0x6A0#11)
    (hlow : w.extractLsb' 0 5 = 3#5) : encode (.smc (w.extractLsb' 5 16)) = w := by
  apply BitVec.eq_of_getLsbD_eq
  intro k hk
  simp only [encode, ← htop, ← hlow, BitVec.getLsbD_append, BitVec.getLsbD_extractLsb']
  interval_cases k <;> simp

/-- The upper eleven bits of SMC are those of no other format. -/
theorem extract_top_ne {w : BitVec 32} (h : w.extractLsb' 21 11 = 0x6A0#11) {t : BitVec 12}
    (ht : t.extractLsb' 1 11 ≠ 0x6A0#11) : w.extractLsb' 20 12 ≠ t := by
  rintro rfl
  refine ht (h ▸ BitVec.eq_of_getLsbD_eq fun k hk => ?_)
  simp only [BitVec.getLsbD_extractLsb', ← Nat.add_assoc, show 1 + k < 12 by omega, hk, decide_true,
    Bool.true_and]

theorem decodeWord_smc (imm : BitVec 16) : decodeWord (encode (.smc imm)) = .ok (.smc imm) := by
  obtain ⟨htop, hlow, himm⟩ := smc_fields imm
  have hfmt {t : BitVec 12} (ht : t.extractLsb' 1 11 ≠ 0x6A0#11) :
      (encode (.smc imm)).extractLsb' 20 12 ≠ t := extract_top_ne htop ht
  have hword {v : BitVec 32} (hv : v.extractLsb' 21 11 ≠ 0x6A0#11) : encode (.smc imm) ≠ v := by
    rintro rfl
    exact hv htop
  rw [decodeWord, if_neg (hfmt (by decide)), if_neg (hfmt (by decide)), if_neg (hfmt (by decide)),
    if_neg (hfmt (by decide)), if_neg (hfmt (by decide)), if_neg (hword (by decide)),
    if_neg (hword (by decide)), if_neg (hword (by decide)), if_pos ⟨htop, hlow⟩, himm]

/-! ## Both directions -/

/-- The decoder gives back every well-formed instruction from its word. -/
theorem decodeWord_encode (i : Instr) (hwf : wellFormed i = true) :
    decodeWord (encode i) = .ok i := by
  cases i
  case mrs e rt =>
    show decodeWord (sysRegWord 0xD53#12 e rt) = _
    simp [decodeWord, sysRegWord_top, rtOf_sysRegWord, sysEncOf_sysRegWord]
  case msr e rt =>
    show decodeWord (sysRegWord 0xD51#12 e rt) = _
    simp [decodeWord, sysRegWord_top, rtOf_sysRegWord, sysEncOf_sysRegWord]
  case mrrs e rt =>
    show decodeWord (sysRegWord 0xD57#12 e rt) = _
    simp [decodeWord, sysRegWord_top, decodePair_sysRegWord _ _ _ hwf]
  case msrr e rt =>
    show decodeWord (sysRegWord 0xD55#12 e rt) = _
    simp [decodeWord, sysRegWord_top, decodePair_sysRegWord _ _ _ hwf]
  case smc imm => exact decodeWord_smc imm
  case eret => rfl
  case eretaa => rfl
  case eretab => rfl
  all_goals exact decodeWord_sysWord (by decide) (by decide) rfl _

/-- Settles O4: the four bytes are one word, and the decoder gives that word's instruction back. -/
theorem decodeOfEncode : Obligations.DecodeOfEncode := fun i rest hwf =>
  decode_bytesOfWord (decodeWord_encode i hwf) rest

/-- Settles O5: a word is accepted in one format, and the encoder of that format puts its fields back. -/
theorem encodeOfDecode : Obligations.EncodeOfDecode := by
  intro w i h
  have hreg {top : BitVec 12} (htop : w.extractLsb' 20 12 = top) :
      sysRegWord top (sysEncOf w) (rtOf w) = w := by rw [← htop, sysRegWord_fields]
  unfold decodeWord at h
  split_ifs at h with hmrs hmsr hmrrs hmsrr hsys heret heretaa heretab hsmc
  · cases h
    exact ⟨rfl, hreg hmrs⟩
  · cases h
    exact ⟨rfl, hreg hmsr⟩
  · obtain ⟨hwf, rfl⟩ := decodePair_eq_ok h
    exact ⟨hwf, hreg hmrrs⟩
  · obtain ⟨hwf, rfl⟩ := decodePair_eq_ok h
    exact ⟨hwf, hreg hmsrr⟩
  · exact encode_of_decodeSys h
  · cases h
    exact ⟨rfl, heret.symm⟩
  · cases h
    exact ⟨rfl, heretaa.symm⟩
  · cases h
    exact ⟨rfl, heretab.symm⟩
  · cases h
    obtain ⟨htop, hlow⟩ := hsmc
    exact ⟨rfl, smc_of_fields htop hlow⟩

/-- Settles O6: each word is the encoding of its instruction. -/
theorem decodeReadsSpecWords : Obligations.DecodeReadsSpecWords :=
  ⟨decodeWord_encode (.mrs ⟨1#1, 4#3, 1#4, 1#4, 0#3⟩ 1#5) rfl,
    decodeWord_encode (.msr ⟨1#1, 5#3, 14#4, 2#4, 2#3⟩ 5#5) rfl,
    decodeWord_encode (.mrrs ⟨1#1, 4#3, 2#4, 1#4, 0#3⟩ 2#5) rfl,
    decodeWord_encode (.msrr ⟨1#1, 4#3, 2#4, 1#4, 0#3⟩ 2#5) rfl,
    decodeWord_encode (.at_S1E1R 2#5) rfl, decodeWord_encode (.tlbi_ALLE2NXS 31#5) rfl,
    decodeWord_encode .eretaa rfl, decodeWord_encode (.smc 0x12#16) rfl⟩

/-! ## An odd pair -/

/-- An odd Rt is bit 0 of the word (R72). -/
theorem rtOf_odd {w : BitVec 32} (h : w.getLsbD 0 = true) : rtOf w &&& 1#5 ≠ 0#5 := by
  intro hz
  have hbit : (rtOf w &&& 1#5).getLsbD 0 = w.getLsbD 0 := by
    simp [rtOf]
  rw [hz, h] at hbit
  exact absurd hbit (by decide)

theorem decodeWord_oddPair {w : BitVec 32}
    (hfmt : w.extractLsb' 20 12 = 0xD57#12 ∨ w.extractLsb' 20 12 = 0xD55#12)
    (hodd : w.getLsbD 0 = true) : decodeWord w = .error .oddPair := by
  have hpair (f : SysEnc → BitVec 5 → Instr) : decodePair f w = .error .oddPair :=
    if_neg (rtOf_odd hodd)
  rcases hfmt with hfmt | hfmt <;> simp [decodeWord, hfmt, hpair]

end Sys2Proof.Proofs
end

section
/-! PROOFS. What one step can do, said once (10_state.md): an exception, an exception return, halting, or an
instruction that completes. The invariant, the surroundings of the machine and what a guest cannot do are read
off these four effects. -/

namespace Sys2Proof.Proofs

open Sys2Proof Sys2Proof.Machine

/-! ## The four effects -/

/-- The state with other events and another count of draws, which no effect depends on. -/
def observed (s : State) (es : List Event) (n : Nat) : State := { s with events := es, draw := n }

/-- What holds of an instruction that completes, whichever it is: no instruction at EL0 or EL1 writes a
register of EL2 (R261). -/
structure Completes (s t : State) : Prop where
  surroundings : KeepsSurroundings s t
  el : t.pstate.el = s.pstate.el
  sp : t.pstate.sp = s.pstate.sp
  mem : s.mem.wf = true → t.mem.wf = true
  regs : RegStore.wf s.regs = true → RegStore.wf t.regs = true
  held : s.tlbHeldNV.Nodup → t.tlbHeldNV.Nodup
  guest : s.pstate.el.num < 2 → ∀ r : RegName, r.sfx = .EL2 → t.reg128 r = s.reg128 r

/-- What a step can come to. An exception goes to a level the implementation has, if the current one is, and
only one to EL3 leaves the place in the vector table open (R211). -/
inductive Effect (s : State) : State → Prop
  | exception (x : Exc) (es : List Event) (n : Nat) (es' : List Event)
      (hlevel : s.cfg.hasEL s.pstate.el = true → s.cfg.hasEL x.target = true)
      (hvector : x.vector = .standard ∨ x.target = .EL3) :
      Effect s ((takeException x (observed s es n)).record es')
  | returns (addr : Word) (es : List Event) (n : Nat) : Effect s (returnTo addr (observed s es n))
  | halts (es : List Event) (n : Nat) :
      Effect s { observed s es n with dbg := { s.dbg with halted := true } }
  | completes {t : State} (h : Completes s t) : Effect s t

theorem Completes.of_observed {s t : State} {es : List Event} {n : Nat}
    (h : Completes (observed s es n) t) : Completes s t :=
  ⟨h.surroundings, h.el, h.sp, h.mem, h.regs, h.held, h.guest⟩

theorem Effect.of_observed {s t : State} {es : List Event} {n : Nat}
    (h : Effect (observed s es n) t) : Effect s t := by
  cases h with
  | exception x es n es' hlevel hvector => exact .exception x es n es' hlevel hvector
  | returns addr es n => exact .returns addr es n
  | halts es n => exact .halts es n
  | completes h => exact .completes h.of_observed

/-! ## Exceptions -/

theorem Effect.takeException {s : State} {x : Exc}
    (hlevel : s.cfg.hasEL s.pstate.el = true → s.cfg.hasEL x.target = true)
    (hvector : x.vector = .standard ∨ x.target = .EL3) : Effect s (takeException x s) := by
  have h := Effect.exception x s.events s.draw [] hlevel hvector
  rwa [State.record, List.append_nil] at h

theorem Effect.trapToEL2 {s : State} (h : s.cfg.el2Enabled = true) (ec : BitVec 6)
    (iss : BitVec 25) : Effect s (trapToEL2 ec iss s) :=
  .takeException (fun _ => h) (.inl rfl)

/-- The base architecture takes an exception to a level there is (92 D27). -/
theorem hasEL_baseTarget {s : State} (h : s.cfg.hasEL s.pstate.el = true) :
    s.cfg.hasEL (baseTarget s) = true := by
  have htge (ht : effTGE s = true) : s.cfg.hasEL .EL2 = true := by
    simp only [effTGE, Bool.and_eq_true] at ht
    exact ht.1
  unfold baseTarget
  split
  · split
    · exact htge ‹_›
    · rfl
  · split
    · exact htge ‹_›
    · rfl
  · rename_i hel
    rwa [hel] at h
  · rename_i hel
    rwa [hel] at h

theorem Effect.undefinedInstr (s : State) : Effect s (undefinedInstr s) :=
  .takeException hasEL_baseTarget (.inl rfl)

/-- A trap of the oracle that is due goes to a level there is. -/
theorem hasEL_of_otherTrap {s : State} {k : TrapKey} {o : OtherTrap} (h : otherTrap s k = some o) :
    s.cfg.hasEL o.target = true := by
  have hdue := List.find?_some h
  simp only [otherTrapDue, Bool.and_eq_true] at hdue
  exact hdue.1.2

theorem Effect.takeOtherTrap {s : State} {k : TrapKey} {o : OtherTrap}
    (h : otherTrap s k = some o) (iss : BitVec 25) : Effect s (takeOtherTrap o iss s) :=
  .takeException (fun _ => hasEL_of_otherTrap h) (.inl rfl)

theorem Effect.trapToEL3 {s : State} {r : RegName} {dir : Dir} (h : el3TrapHigher s r dir = true)
    (iss : BitVec 25) : Effect s (trapToEL3 iss s) := by
  simp only [el3TrapHigher, Bool.and_eq_true] at h
  exact .takeException (fun _ => h.1) (.inl rfl)

/-! ## The gates of the base architecture -/

theorem Effect.baseGate {s t : State} {e : SysEnc} {r : RegName} {rt : BitVec 5} {dir : Dir}
    (h : baseGate s e r rt dir = some t) : Effect s t := by
  unfold Machine.baseGate at h
  split at h
  · cases h
    exact .undefinedInstr s
  · split at h
    · rename_i hel3
      cases h
      exact .trapToEL3 hel3.2.2 _
    · split at h
      · cases h
        exact .undefinedInstr s
      · split at h
        · cases h
          exact .takeOtherTrap ‹_› _
        · cases h

/-- An access that the gate lets through is not UNDEFINED at this level. -/
theorem undefinedHere_of_baseGate_none {s : State} {e : SysEnc} {r : RegName} {rt : BitVec 5}
    {dir : Dir} (h : baseGate s e r rt dir = none) : undefinedHere s r dir = false := by
  by_contra hu
  rw [Bool.not_eq_false] at hu
  simp only [baseGate, hu, if_true] at h
  split at h
  · cases h
  · split at h <;> cases h

theorem Effect.baseSysGate {s t : State} {present : Bool} {lowest : EL} {op : SysOp}
    {rt : BitVec 5} (h : baseSysGate s present lowest op rt = some t) : Effect s t := by
  unfold Machine.baseSysGate at h
  split at h
  · cases h
    exact .undefinedInstr s
  · split at h
    · cases h
      exact .undefinedInstr s
    · split at h
      · cases h
        exact .takeOtherTrap ‹_› _
      · cases h

/-! ## Completed instructions -/

/-- An `_EL12` or `_EL02` name stores in no register of EL2 (R30). -/
theorem storageName_ne_of_sfx {r q : RegName} (hr : r.sfx = .EL2) (hq : q.sfx ≠ .EL2) :
    storageName r ≠ storageName q := by
  obtain ⟨rb, rs, ri⟩ := r
  obtain ⟨qb, qs, qi⟩ := q
  cases hr
  cases qs <;> simp only [storageName, ne_eq, not_true_eq_false] at hq ⊢
  case EL12 => split <;> simp
  all_goals simp

/-- A register of EL2 is accessible from EL2 up (R76). -/
theorem two_le_minEL {r : RegName} (h : r.sfx = .EL2) : 2 ≤ (minEL r).num := by
  unfold minEL
  split_ifs with h0 h1 h2 hb
  · rw [beq_iff_eq.1 h0] at h
    cases h
  · decide
  · decide
  · decide
  · rw [h]
    decide

/-- What the gate lets a guest access is no register of EL2 (R100). -/
theorem sfx_ne_EL2_of_baseGate_none {s : State} {e : SysEnc} {r : RegName} {rt : BitVec 5}
    {dir : Dir} (h : baseGate s e r rt dir = none) (hel : s.pstate.el.num < 2) : r.sfx ≠ .EL2 := by
  intro hr
  have hu := undefinedHere_of_baseGate_none h
  simp only [undefinedHere, Bool.or_eq_false_iff, decide_eq_false_iff_not] at hu
  have := two_le_minEL hr
  omega

theorem Completes.setX (s : State) (rt : BitVec 5) (v : Word) :
    Completes s (s.setX rt v).advance := by
  constructor <;> simp [KeepsSurroundings]

theorem Completes.setXPair (s : State) (rt : BitVec 5) (v : DWord) :
    Completes s (s.setXPair rt v).advance := by
  constructor <;> simp [KeepsSurroundings]

/-- A written register that is none of EL2, or a write above EL1. -/
theorem Completes.setReg128 {s : State} {r : RegName} (hr : s.pstate.el.num < 2 → r.sfx ≠ .EL2)
    (v : DWord) : Completes s (s.setReg128 r v).advance where
  surroundings := ⟨rfl, rfl, rfl, rfl⟩
  el := rfl
  sp := rfl
  mem := id
  regs h := RegStore.wf_setReg128 h r v
  held := id
  guest hel _ hq := State.reg128_setReg128_other s (storageName_ne_of_sfx hq (hr hel)) v

theorem Completes.store64 {s : State} {r : RegName} (hr : s.pstate.el.num < 2 → r.sfx ≠ .EL2)
    (v : Word) : Completes s (s.store64 r v).advance := by
  obtain ⟨w, -, hw⟩ := State.setReg64_spec s s.draw r v
  have h := Completes.setReg128 hr w
  rw [State.store64, hw]
  exact ⟨h.surroundings, h.el, h.sp, h.mem, h.regs, h.held, h.guest⟩

theorem Completes.writeReg {s : State} {r : RegName} (hr : s.pstate.el.num < 2 → r.sfx ≠ .EL2)
    (v : Word) : Completes s (s.writeReg r v).advance := by
  obtain ⟨rs, pan, uao, held, n, hw, hheld, hregs, hother⟩ := writeReg_spec s r v
  have hguest (hel : s.pstate.el.num < 2) (q : RegName) (hq : q.sfx = .EL2) :
      (s.writeReg r v).reg128 q = s.reg128 q :=
    hother q (storageName_ne_of_sfx hq (hr hel))
  rw [hw] at hguest ⊢
  exact ⟨⟨rfl, rfl, rfl, rfl⟩, rfl, rfl, id, hregs, hheld, hguest⟩

theorem Completes.invalidate (s : State) : Completes s (invalidate s).advance := by
  obtain ⟨held, n, hi, hsub⟩ := invalidate_spec s
  rw [hi]
  exact ⟨⟨rfl, rfl, rfl, rfl⟩, rfl, rfl, id, id, hsub.nodup, fun _ _ _ => rfl⟩

theorem Completes.translateToPAR (s : State) (op : AtOp) (va : Word) :
    Completes s (translateToPAR s op va).advance := by
  obtain ⟨v, n, hp⟩ := translateToPAR_spec s op va
  have h := Completes.setReg128 (s := s) (r := ⟨.PAR, .EL1, 0⟩) (fun _ => by decide) v
  rw [hp]
  exact ⟨h.surroundings, h.el, h.sp, h.mem, h.regs, h.held, h.guest⟩

/-! ## The meanings -/

theorem classifyRegAccess_of_inactive {s : State}
    (h : s.pstate.el ≠ .EL1 ∨ s.cfg.el2Enabled = false ∨ s.cfg.haveNV = false) (r : RegName)
    (dir : Dir) (b : Bool) : classifyRegAccess s r dir b = .unchanged :=
  if_pos h

/-- Every outcome but `Unchanged` needs EL2 (R131, 92 D21). -/
theorem el2Enabled_of_classify {s : State} {r : RegName} {dir : Dir} {b : Bool} {o : AccessOutcome}
    (h : classifyRegAccess s r dir b = o) (ho : o ≠ .unchanged) : s.cfg.el2Enabled = true := by
  by_contra hn
  rw [Bool.not_eq_true] at hn
  exact ho (h.symm.trans (classifyRegAccess_of_inactive (.inr (.inl hn)) r dir b))

theorem classifyTail_ne_redirect (s : State) (r : RegName) (dir : Dir) (b : Bool) (r' : RegName) :
    classifyTail s r dir b ≠ .redirect r' := by
  unfold classifyTail
  split <;> split_ifs <;> simp

/-- The classifier redirects to the register R148 names. -/
theorem redirectTarget_of_classify {s : State} {r r' : RegName} {dir : Dir} {b : Bool}
    (h : classifyRegAccess s r dir b = .redirect r') : redirectTarget r = some r' := by
  have htail := classifyTail_ne_redirect s r dir b r'
  unfold classifyRegAccess at h
  cases hred : redirectTarget r with
  | none =>
    simp only [hred] at h
    split_ifs at h
    · exact absurd h htail
    · exact absurd h htail
  | some q =>
    simp only [hred] at h
    split_ifs at h
    · exact congrArg some (AccessOutcome.redirect.inj h)
    · exact absurd h htail

theorem redirectTarget_sfx {r r' : RegName} (h : redirectTarget r = some r') : r'.sfx = .EL1 := by
  unfold redirectTarget at h
  split_ifs at h <;> cases h <;> rfl

/-- A transformed access that does not complete is an exception to a level there is, or halts the PE. -/
theorem Effect.vncrAccess_stops {s t : State} {off : BitVec 12} {size : Nat} {dir : Dir}
    (hel2 : s.cfg.el2Enabled = true) (h : vncrAccess s off size dir = .stops t) (es : List Event) :
    Effect s (t.record es) := by
  have hfault (n : Nat) (ec : BitVec 6) (iss : BitVec 25) (a : Word) :
      Effect s ((faultToEL2 ec iss a (s.drawn n)).record es) :=
    .exception _ s.events (s.draw + n) es (fun _ => hel2) (.inl rfl)
  unfold vncrAccess at h
  simp only at h
  split at h
  · cases h
    exact hfault 0 _ _ _
  · split at h
    · obtain ⟨⟨n, hn⟩, -⟩ := vncrWatchpoint_spec (vncrAddress s off) size dir s.dbg.watchpoints s
      rw [hn] at h
      split at h
      · rename_i t' hevent
        cases h
        obtain ⟨a, -, hevent⟩ := Option.bind_eq_some_iff.1 hevent
        unfold watchpointEvent at hevent
        split_ifs at hevent
        · cases hevent
          exact .halts _ _
        · cases hevent
          exact hfault n _ _ _
      · split at h
        · cases h
          unfold externalAbort
          split_ifs with hea
          · rw [Bool.and_eq_true] at hea
            exact .exception _ s.events (s.draw + n) es (fun _ => hea.1) (.inr rfl)
          · exact .exception _ s.events (s.draw + n) es (fun _ => hel2) (.inl rfl)
        · cases h
    · cases h
      exact hfault 0 _ _ _

theorem vncrAccess_completes_state {s t : State} {off : BitVec 12} {size : Nat} {dir : Dir}
    {pa : Nat} {wb : Bool} (h : vncrAccess s off size dir = .completes pa wb t) :
    ∃ n, t = s.drawn n := by
  obtain ⟨⟨n, hn⟩, -⟩ := vncrWatchpoint_spec (vncrAddress s off) size dir s.dbg.watchpoints s
  unfold vncrAccess at h
  simp only at h
  split at h
  · cases h
  · split at h
    · split at h
      · cases h
      · split at h
        · cases h
        · cases h
          exact ⟨n, hn⟩
    · cases h

theorem Effect.vncrRead_stops {s t : State} {off : BitVec 12} {size : Nat}
    (hel2 : s.cfg.el2Enabled = true) (h : vncrRead s off size = .stops t) : Effect s t := by
  unfold vncrRead at h
  split at h
  · cases h
    exact .vncrAccess_stops hel2 ‹_› _
  · cases h

theorem vncrRead_value_state {s t : State} {off : BitVec 12} {size v : Nat}
    (h : vncrRead s off size = .value v t) : ∃ es n, t = observed s es n := by
  unfold vncrRead at h
  split at h
  · cases h
  · rename_i pa wb t' hacc
    obtain ⟨n, rfl⟩ := vncrAccess_completes_state hacc
    cases h
    exact ⟨_, _, rfl⟩

theorem Effect.vncrWrite_stops {s t : State} {off : BitVec 12} {size v : Nat}
    (hel2 : s.cfg.el2Enabled = true) (h : vncrWrite s off size v = .stops t) : Effect s t := by
  unfold vncrWrite at h
  split at h
  · cases h
    exact .vncrAccess_stops hel2 ‹_› _
  · cases h

theorem Completes.vncrWrite_done {s t : State} {off : BitVec 12} {size v : Nat}
    (h : vncrWrite s off size v = .done t) : Completes s t.advance := by
  unfold vncrWrite at h
  split at h
  · cases h
  · rename_i pa wb t' hacc
    obtain ⟨n, rfl⟩ := vncrAccess_completes_state hacc
    cases h
    exact ⟨⟨rfl, rfl, rfl, rfl⟩, rfl, rfl, fun hm => Memory.wf_writeBytes _ hm _, id, id,
      fun _ _ _ => rfl⟩

theorem Effect.baseRead (e : SysEnc) (r : RegName) (rt : BitVec 5) (s : State) :
    Effect s (baseRead e r rt s) := by
  unfold Machine.baseRead
  split
  · exact .baseGate ‹_›
  · obtain ⟨n, hn⟩ := readReg_spec s r
    rw [hn]
    exact .of_observed (es := s.events) (n := s.draw + n) (.completes (.setX _ rt _))

theorem Effect.baseWrite (e : SysEnc) (r : RegName) (rt : BitVec 5) (s : State) :
    Effect s (baseWrite e r rt s) := by
  unfold Machine.baseWrite
  split
  · exact .baseGate ‹_›
  · rename_i hgate
    exact .completes (.writeReg (sfx_ne_EL2_of_baseGate_none hgate) _)

theorem Effect.baseRead128 (e : SysEnc) (r : RegName) (rt : BitVec 5) (s : State) :
    Effect s (baseRead128 e r rt s) := by
  unfold Machine.baseRead128
  split
  · exact .undefinedInstr s
  · split
    · exact .baseGate ‹_›
    · exact .completes (.setXPair s rt _)

theorem Effect.baseWrite128 (e : SysEnc) (r : RegName) (rt : BitVec 5) (s : State) :
    Effect s (baseWrite128 e r rt s) := by
  unfold Machine.baseWrite128
  split
  · exact .undefinedInstr s
  · split
    · exact .baseGate ‹_›
    · rename_i hgate
      exact .completes (.setReg128 (sfx_ne_EL2_of_baseGate_none hgate) _)

theorem execMrs_effect {e : SysEnc} {rt : BitVec 5} {s t : State} (h : execMrs e rt s = .next t) :
    Effect s t := by
  unfold execMrs at h
  simp only at h
  split at h
  · rename_i ec hc
    cases h
    exact .trapToEL2 (el2Enabled_of_classify hc (by simp)) _ _
  · cases h
    exact .completes (.setX s rt _)
  · cases h
    exact .completes (.setX s rt _)
  · rename_i off hc
    split at h
    · rename_i v u hv
      obtain ⟨es, n, rfl⟩ := vncrRead_value_state hv
      cases h
      exact .of_observed (.completes (.setX _ rt _))
    · cases h
      exact .vncrRead_stops (el2Enabled_of_classify hc (by simp)) ‹_›
  · cases h
    exact .undefinedInstr s
  · cases h
  · cases h
    exact .baseRead e _ rt s

theorem execMsr_effect {e : SysEnc} {rt : BitVec 5} {s t : State} (h : execMsr e rt s = .next t) :
    Effect s t := by
  unfold execMsr at h
  simp only at h
  split at h
  · rename_i ec hc
    cases h
    exact .trapToEL2 (el2Enabled_of_classify hc (by simp)) _ _
  · cases h
    exact .baseWrite e _ rt s
  · rename_i r' hc
    cases h
    have hsfx := redirectTarget_sfx (redirectTarget_of_classify hc)
    exact .completes (.store64 (fun _ => by rw [hsfx]; decide) _)
  · rename_i off hc
    split at h
    · cases h
      exact .completes (.vncrWrite_done ‹_›)
    · cases h
      exact .vncrWrite_stops (el2Enabled_of_classify hc (by simp)) ‹_›
  · cases h
    exact .undefinedInstr s
  · cases h
  · cases h
    exact .baseWrite e _ rt s

theorem execMrrs_effect {e : SysEnc} {rt : BitVec 5} {s t : State}
    (h : execMrrs e rt s = .next t) : Effect s t := by
  unfold execMrrs at h
  simp only at h
  split at h
  case h_1 off hc =>
    split at h
    · rename_i v u hv
      obtain ⟨es, n, rfl⟩ := vncrRead_value_state hv
      cases h
      exact .of_observed (.completes (.setXPair _ rt _))
    · cases h
      exact .vncrRead_stops (el2Enabled_of_classify hc (by simp)) ‹_›
  case h_2 => cases h
  case h_3 =>
    cases h
    exact .undefinedInstr s
  all_goals
    cases h
    exact .baseRead128 e _ rt s

theorem execMsrr_effect {e : SysEnc} {rt : BitVec 5} {s t : State}
    (h : execMsrr e rt s = .next t) : Effect s t := by
  unfold execMsrr at h
  simp only at h
  split at h
  case h_1 off hc =>
    split at h
    · cases h
      exact .completes (.vncrWrite_done ‹_›)
    · cases h
      exact .vncrWrite_stops (el2Enabled_of_classify hc (by simp)) ‹_›
  case h_2 => cases h
  case h_3 =>
    cases h
    exact .undefinedInstr s
  all_goals
    cases h
    exact .baseWrite128 e _ rt s

theorem el2Enabled_of_underEL2 {s : State} (h : underEL2 s = true) : s.cfg.el2Enabled = true :=
  ((underEL2_iff s).1 h).2

theorem addressTranslation_effect {op : AtOp} {enc : SysOp} {rt : BitVec 5} {s t : State}
    (h : addressTranslation op enc rt s = .next t) : Effect s t := by
  unfold addressTranslation at h
  cases h
  split_ifs with htrap
  · exact .trapToEL2 (el2Enabled_of_underEL2 ((atTrapped_iff s op).1 htrap).1) _ _
  · split
    · exact .baseSysGate ‹_›
    · exact .completes (.translateToPAR s op _)

theorem tlbMaintenance_effect {present : Bool} {enc : SysOp} {rt : BitVec 5} {s t : State}
    (h : tlbMaintenance present enc rt s = .next t) : Effect s t := by
  unfold tlbMaintenance at h
  cases h
  split_ifs with htrap
  · simp only [tlbiTrapped, Bool.and_eq_true] at htrap
    exact .trapToEL2 (el2Enabled_of_underEL2 htrap.1.1) _ _
  · split
    · exact .baseSysGate ‹_›
    · exact .completes (.invalidate s)

theorem Effect.eretWith (kind : EretKind) (addr : Word) (s : State) :
    Effect s (eretWith kind addr s) := by
  unfold Machine.eretWith
  split_ifs with htrap
  · exact .trapToEL2 ((eretTrapped_iff s).1 htrap).2.1 _ _
  · exact .undefinedInstr s
  · split
    · exact .takeOtherTrap ‹_› _
    · exact .returns addr s.events s.draw

theorem Effect.authenticated (kind : EretKind) (s : State) : Effect s (authenticated kind s) := by
  unfold Machine.authenticated
  split_ifs with _ htrap
  · exact .undefinedInstr s
  · exact .trapToEL2 ((eretTrapped_iff s).1 htrap).2.1 _ _
  · exact .of_observed (es := s.events) (n := s.draw + 1) (.eretWith kind _ _)

theorem Effect.baseSmc (imm : BitVec 16) (s : State) : Effect s (baseSmc imm s) := by
  unfold Machine.baseSmc
  split
  · exact .undefinedInstr s
  · rename_i hdef
    rw [not_or, Bool.not_eq_false] at hdef
    split
    · exact .takeOtherTrap ‹_› _
    · split
      · rename_i htsc
        rw [Bool.and_eq_true] at htsc
        exact .trapToEL2 (el2Enabled_of_underEL2 htsc.1) _ _
      · exact .takeException (fun _ => hdef.2) (.inl rfl)

theorem exec_smc (imm : BitVec 16) (s : State) :
    exec (.smc imm) s =
      .next (if smcTrapped s then trapToEL2 0x17#6 (issSmc imm) s else baseSmc imm s) := rfl

theorem exec_smc_effect {imm : BitVec 16} {s t : State} (h : exec (.smc imm) s = .next t) :
    Effect s t := by
  cases h
  split_ifs with htrap
  · simp only [smcTrapped, Bool.and_eq_true] at htrap
    exact .trapToEL2 (el2Enabled_of_underEL2 htrap.1.1.1) _ _
  · exact .baseSmc imm s

/-- What every instruction does is one of the four effects. -/
theorem exec_effect (i : Instr) {s t : State} (h : exec i s = .next t) : Effect s t := by
  have hsys : (∃ op, atOf i = some op) ∨ (∃ n, tlbiOf i = some n) → Effect s t := by
    rintro (⟨op, hop⟩ | ⟨n, hn⟩)
    · obtain ⟨base, rt, -, -, hrun⟩ := exec_at hop s
      exact addressTranslation_effect (hrun.symm.trans h)
    · obtain ⟨base, rt, -, -, hrun⟩ := exec_tlbi hn s
      exact tlbMaintenance_effect (hrun.symm.trans h)
  cases i
  case mrs => exact execMrs_effect h
  case msr => exact execMsr_effect h
  case mrrs => exact execMrrs_effect h
  case msrr => exact execMsrr_effect h
  case eret =>
    cases h
    exact .eretWith _ _ s
  case eretaa =>
    cases h
    exact .authenticated _ s
  case eretab =>
    cases h
    exact .authenticated _ s
  case smc => exact exec_smc_effect h
  all_goals exact hsys (by simp [atOf, tlbiOf])

/-! ## A step -/

theorem step_of_stops {s t : State} (hhalt : s.dbg.halted = false) (hel0 : el0UnderNV1 s = false)
    (h : instructionOrException s = .stops t) : step s = .next t := by
  simp only [step, hhalt, hel0, h, Bool.false_eq_true, if_false]

theorem step_of_word {s t : State} {w : BitVec 32} {i : Instr} (hhalt : s.dbg.halted = false)
    (hel0 : el0UnderNV1 s = false) (h : instructionOrException s = .word w t)
    (hi : decodeWord w = .ok i) : step s = exec i t := by
  simp only [step, hhalt, hel0, h, hi, Bool.false_eq_true, if_false]

theorem step_of_undecoded {s t : State} {w : BitVec 32} {d : DecodeError}
    (hhalt : s.dbg.halted = false) (hel0 : el0UnderNV1 s = false)
    (h : instructionOrException s = .word w t) (hd : decodeWord w = .error d) :
    step s = .refused (refusalOf d) := by
  simp only [step, hhalt, hel0, h, hd, Bool.false_eq_true, if_false]

/-- A step that answers a next state is an exception of the instruction side or one instruction. -/
theorem step_next {s t : State} (h : step s = .next t) :
    instructionOrException s = .stops t ∨
      ∃ w u i, instructionOrException s = .word w u ∧ exec i u = .next t := by
  unfold step at h
  split_ifs at h
  split at h
  · cases h
    exact .inl ‹_›
  · split at h
    · exact .inr ⟨_, _, _, ‹_›, h⟩
    · cases h

theorem instructionOrException_word {s t : State} {w : BitVec 32}
    (h : instructionOrException s = .word w t) :
    ∃ u, fetchWord { s with events := [] } = .word w u ∧ t = u.record [.executed s.pstate.el] := by
  unfold instructionOrException at h
  simp only at h
  split at h
  · cases h
  · split at h
    · cases h
    · cases h
      exact ⟨_, ‹_›, rfl⟩

theorem Effect.instructionSide {s t : State} (h : instructionSide s = some t) : Effect s t := by
  unfold Machine.instructionSide at h
  split at h
  · rename_i v hv
    cases h
    have hdue := List.find?_some hv
    simp only [Bool.and_eq_true] at hdue
    exact .takeException (fun _ => hdue.2) (.inl rfl)
  · split_ifs at h
    · cases h
      exact .takeException hasEL_baseTarget (.inl rfl)
    · cases h
      exact .takeException hasEL_baseTarget (.inl rfl)

theorem Effect.instructionAbort (s : State) (fsc : BitVec 6) :
    Effect s (instructionAbort s fsc) := by
  refine .takeException (fun h => ?_) (.inl rfl)
  rw [excTarget_baseTarget]
  exact hasEL_baseTarget h

theorem Effect.fetchWord_stops {s t : State} (h : fetchWord s = .stops t) : Effect s t := by
  unfold fetchWord at h
  split at h
  · cases h
  · rename_i g hg
    obtain ⟨n, hn⟩ := regimeReading_spec s g
    simp only [hn] at h
    have habort (m : Nat) (fsc : BitVec 6) : Effect s (Machine.instructionAbort (s.drawn m) fsc) :=
      .of_observed (es := s.events) (n := s.draw + m) (.instructionAbort _ fsc)
    split at h
    · cases h
      exact habort n _
    · split_ifs at h
      · cases h
        exact habort (n + 1) _
      · cases h
        exact habort (n + 1) _

/-- What a step does is one of the four effects, from the state it starts in. -/
theorem step_effect {s t : State} (h : step s = .next t) : Effect s t := by
  rcases step_next h with hstop | ⟨w, u, i, hword, hrun⟩
  · have heff : Effect { s with events := [] } t := by
      unfold instructionOrException at hstop
      simp only at hstop
      split at hstop
      · cases hstop
        exact .instructionSide ‹_›
      · split at hstop
        · cases hstop
          exact .fetchWord_stops ‹_›
        · cases hstop
    exact .of_observed (es := []) (n := s.draw) heff
  · obtain ⟨v, hv, rfl⟩ := instructionOrException_word hword
    obtain ⟨-, n, rfl⟩ := fetchWord_word hv
    exact .of_observed (es := [.executed s.pstate.el]) (n := s.draw + n) (exec_effect i hrun)

/-! ## What the four effects keep -/

theorem hasEL_excTarget {c : Config} {target cur : EL} (ht : c.hasEL target = true)
    (hc : c.hasEL cur = true) : c.hasEL (excTarget target cur) = true := by
  unfold excTarget
  split_ifs
  · exact ht
  · rfl
  · exact hc

/-- A return goes to a level there is, and to EL0 on its own stack pointer (assumption 20). -/
theorem returnPState_level {s : State} (hel : s.cfg.hasEL s.pstate.el = true)
    (hsp : s.pstate.el = .EL0 → s.pstate.sp = false) (v : Word) :
    s.cfg.hasEL (returnPState s v).el = true ∧
      ((returnPState s v).el = .EL0 → (returnPState s v).sp = false) := by
  unfold returnPState
  split_ifs with hlegal
  · simp only [legalReturn, Bool.and_eq_true, Bool.not_eq_true', Bool.and_eq_false_imp,
      beq_iff_eq] at hlegal
    exact ⟨hlegal.1.2, hlegal.2⟩
  · exact ⟨hel, hsp⟩

/-- A return goes no higher than the current level. -/
theorem returnPState_el_le (s : State) (v : Word) :
    (returnPState s v).el.num ≤ s.pstate.el.num := by
  unfold returnPState
  split_ifs with hlegal
  · simp only [legalReturn, Bool.and_eq_true, decide_eq_true_eq] at hlegal
    exact hlegal.1.1.2
  · exact Nat.le_refl _

theorem Effect.inv {s t : State} (h : Effect s t) (hs : s.Inv) : t.Inv := by
  obtain ⟨hmem, hregs, hheld, hel, hsp⟩ := hs
  cases h with
  | exception x es n es' hlevel hvector =>
    have htgt := hasEL_excTarget (hlevel hel) hel
    refine ⟨?_, takeException_regs_wf x hregs, ?_, ?_, fun h0 => absurd h0 (excTarget_ne_EL0 _ _)⟩
    · rw [State.record_mem, takeException_mem]
      exact hmem
    · rw [State.record_tlbHeldNV, takeException_tlbHeldNV]
      exact hheld
    · rw [State.record_cfg, takeException_cfg]
      exact htgt
  | returns addr es n => exact ⟨hmem, hregs, hheld, returnPState_level hel hsp _⟩
  | halts es n => exact ⟨hmem, hregs, hheld, hel, hsp⟩
  | completes h =>
    refine ⟨h.mem hmem, h.regs hregs, h.held hheld, ?_, ?_⟩
    · rw [h.surroundings.1, h.el]
      exact hel
    · rw [h.el, h.sp]
      exact hsp

theorem Effect.surroundings {s t : State} (h : Effect s t) : KeepsSurroundings s t := by
  cases h with
  | exception x es n es' _ _ =>
    exact ⟨takeException_cfg x _, takeException_sec x _, takeException_mappings x _,
      takeException_profiling x _⟩
  | returns addr es n => exact ⟨rfl, rfl, rfl, rfl⟩
  | halts es n => exact ⟨rfl, rfl, rfl, rfl⟩
  | completes h => exact h.surroundings

theorem elSuffix_eq_EL2 {l : EL} (h : elSuffix l = .EL2) : l = .EL2 := by cases l <;> cases h; rfl

theorem storageName_of_sfx_EL2 {r : RegName} (h : r.sfx = .EL2) : storageName r = r := by
  simp only [storageName, h]

/-- An entry writes registers of EL2 only if it goes to EL2, and then the four of R213. -/
theorem takeException_reg128_EL2 (x : Exc) (s : State) {r : RegName} (hr : r.sfx = .EL2)
    (hnot : r ∉ [(⟨.ESR, .EL2, 0⟩ : RegName), ⟨.FAR, .EL2, 0⟩, ⟨.ELR, .EL2, 0⟩, ⟨.SPSR, .EL2, 0⟩]) :
    (takeException x s).reg128 r = s.reg128 r := by
  simp only [List.mem_cons, List.not_mem_nil, or_false, not_or] at hnot
  obtain ⟨hesr, hfar, helr, hspsr⟩ := hnot
  have hne {b : RegBase} {l : EL} (hb : r ≠ ⟨b, .EL2, 0⟩) : storageName r ≠ ⟨b, elSuffix l, 0⟩ := by
    rw [storageName_of_sfx_EL2 hr]
    rintro rfl
    exact hb (by rw [elSuffix_eq_EL2 hr]; rfl)
  exact takeException_reg128_other x s (hne hesr) (.inl (hne hfar)) (hne helr) (hne hspsr)

theorem Effect.keepsEL2 {s t : State} (h : Effect s t) (hel : s.pstate.el.num < 2) {r : RegName}
    (hr : r.sfx = .EL2)
    (hnot : r ∉ [(⟨.ESR, .EL2, 0⟩ : RegName), ⟨.FAR, .EL2, 0⟩, ⟨.ELR, .EL2, 0⟩, ⟨.SPSR, .EL2, 0⟩]) :
    t.reg128 r = s.reg128 r := by
  cases h with
  | exception x es n es' _ _ => exact takeException_reg128_EL2 x _ hr hnot
  | returns addr es n => rfl
  | halts es n => rfl
  | completes h => exact h.guest hel r hr

/-- An entry to EL2 from below is at the vector of a lower level (R210, R213). -/
theorem vectorAfter_EL2_of_lower {s : State} (hel : s.pstate.el.num < 2) :
    vectorAfter s .EL2 .standard = s.reg ⟨.VBAR, .EL2, 0⟩ + 0x400#64 := by
  have hlow : s.pstate.el.num < EL.EL2.num := hel
  simp only [vectorAfter, vectorOffset, hlow, if_true, elSuffix]

/-- The only effect that goes from below to EL2 is an exception. -/
theorem Effect.entersEL2 {s t : State} (h : Effect s t) (hel : s.pstate.el.num < 2)
    (ht : t.pstate.el = .EL2) :
    t.pc = s.reg ⟨.VBAR, .EL2, 0⟩ + 0x400#64 ∧ t.pstate.sp = true ∧ t.pstate.d = true ∧
      t.pstate.a = true ∧ t.pstate.i = true ∧ t.pstate.f = true := by
  cases h with
  | exception x es n es' _ hvector =>
    have htgt : excTarget x.target s.pstate.el = .EL2 := ht
    have hstd : x.vector = .standard := by
      refine hvector.resolve_right fun h3 => ?_
      rw [h3, excTarget_of_lt (by show _ < 3; omega)] at htgt
      cases htgt
    have hpc : (Machine.takeException x (observed s es n)).pc =
        vectorAfter (observed s es n) (excTarget x.target s.pstate.el) x.vector :=
      takeException_pc x _
    rw [htgt, hstd, vectorAfter_EL2_of_lower (s := observed s es n) hel] at hpc
    exact ⟨hpc, rfl, rfl, rfl, rfl, rfl⟩
  | returns addr es n =>
    have hle := returnPState_el_le (observed s es n)
      ((observed s es n).reg ⟨.SPSR, elSuffix s.pstate.el, 0⟩)
    have hge : (returnTo addr (observed s es n)).pstate.el.num = 2 := by rw [ht]; rfl
    exact absurd hel (Nat.not_lt.2 (hge ▸ hle))
  | halts es n =>
    have hs : s.pstate.el = .EL2 := ht
    rw [hs] at hel
    exact absurd hel (by decide)
  | completes h =>
    rw [← h.el, ht] at hel
    exact absurd hel (by decide)

theorem num_lt_two {l : EL} (h : l = .EL0 ∨ l = .EL1) : l.num < 2 := by
  rcases h with rfl | rfl <;> decide

/-- Settles O1: nothing is stored, nothing is held, and the level is one of the reset implementation. -/
theorem resetSatisfiesInvariant : Obligations.ResetSatisfiesInvariant :=
  ⟨Memory.wf_nil, RegStore.wf_nil, List.nodup_nil, rfl, fun h => nomatch h⟩

/-- Settles O2: each of the four effects keeps the invariant. -/
theorem stepKeepsInvariant : Obligations.StepKeepsInvariant := fun _ _ hs h => (step_effect h).inv hs

/-- Settles O3: so does each of the surroundings. -/
theorem stepKeepsSurroundings : Obligations.StepKeepsSurroundings := fun _ _ h =>
  (step_effect h).surroundings

/-- Settles O59: an entry to EL2 writes four registers of EL2, and no other effect at EL0 or EL1 any. -/
theorem guestNeverChangesEL2Registers : Obligations.GuestNeverChangesEL2Registers :=
  fun _ _ _ hel h hr hnot => (step_effect h).keepsEL2 (num_lt_two hel) hr hnot

/-- Settles O60: only an exception goes up, and one to EL2 enters at the vector. -/
theorem guestReachesEL2OnlyByTheVector : Obligations.GuestReachesEL2OnlyByTheVector :=
  fun _ _ hel h ht => (step_effect h).entersEL2 (num_lt_two hel) ht

end Sys2Proof.Proofs
end

section
/-! PROOFS. The instruction side of a step (R70, R214): which word is run, which exception comes first, and
what is refused. -/

namespace Sys2Proof.Proofs

open Sys2Proof Sys2Proof.Machine

/-! ## The fetched word -/

/-- The reading of descriptors does not depend on what the other units saw. -/
theorem regimeReading_fst_events (s : State) (es : List Event) (g : Regime) :
    (regimeReading { s with events := es } g).1 = (regimeReading s g).1 := by
  have hused : usableHeldNV { s with events := es } = usableHeldNV s := rfl
  cases g
  case el10 =>
    simp only [regimeReading, descriptorReading, hused]
    cases usableHeldNV s <;> rfl
  all_goals rfl

theorem fetchAddress_events (s : State) (es : List Event) :
    fetchAddress { s with events := es } = fetchAddress s := by
  have hregime : fetchRegime { s with events := es } = fetchRegime s := rfl
  have hxlat (g : Regime) (b : Bool) :
      translate { s with events := es } g b s.pc = translate s g b s.pc := rfl
  simp only [fetchAddress, hregime, regimeReading_fst_events, hxlat]

/-- Settles O8: the fetch answers the word memory holds, and only draws values. -/
theorem stepRunsDecodedInstruction : Obligations.StepRunsDecodedInstruction := by
  intro s t w i hhalt hel0 hword hi
  obtain ⟨u, hu, rfl⟩ := instructionOrException_word hword
  obtain ⟨hw, n, rfl⟩ := fetchWord_word hu
  rw [fetchAddress_events] at hw
  exact ⟨step_of_word hhalt hel0 hword hi, hw, rfl⟩

/-- Settles O7: the decoder refuses the word by name, and the step refuses with that name. -/
theorem oddPairIsRefused : Obligations.OddPairIsRefused := by
  intro s t w hfmt hodd
  have hdec : decodeWord w = .error .oddPair := decodeWord_oddPair hfmt hodd
  exact ⟨hdec, fun hhalt hel0 hword => step_of_undecoded hhalt hel0 hword hdec⟩

theorem el0UnderNV1_iff (s : State) :
    el0UnderNV1 s = true ↔
      s.pstate.el = .EL0 ∧ (effNV s).nv = true ∧ (effNV s).nv1 = true := by
  simp only [el0UnderNV1, Bool.and_eq_true, beq_iff_eq, and_assoc]

/-- Settles O11: the check of R51 comes before the fetch. -/
theorem stepAtEL0UnderNV1IsRefused : Obligations.StepAtEL0UnderNV1IsRefused := by
  intro s hhalt hel hnv hnv1
  simp only [step, hhalt, (el0UnderNV1_iff s).2 ⟨hel, hnv, hnv1⟩, Bool.false_eq_true, if_false,
    if_true]

/-! ## The fetch while no older pair is held -/

/-- With no pair held the current condition decides, and in the EL1&0 regime only (R44). -/
theorem regimeReading_of_nil {s : State} (h : s.tlbHeldNV = []) (g : Regime) :
    regimeReading s g = (decide (g = .el10) && nv1Active s, s) := by
  cases g
  case el10 => simp only [regimeReading_el10_of_nil h, decide_true, Bool.true_and]
  all_goals rfl

section Fetch
variable {s : State} {g : Regime} (hg : fetchRegime s = some g) (hheld : s.tlbHeldNV = [])
include hg hheld

theorem fetchWord_fault {fsc : BitVec 6}
    (hx : translate s g (decide (g = .el10) && nv1Active s) s.pc = .fault fsc) :
    fetchWord s = .stops (instructionAbort s fsc) := by
  simp only [fetchWord, hg, regimeReading_of_nil hheld, hx]

variable {pa : Nat} {p : Perms} {level : BitVec 2} {wb ea : Bool}
  (hx : translate s g (decide (g = .el10) && nv1Active s) s.pc = .ok pa p level wb ea)
include hx

theorem fetchWord_denied (hp : executeNever s g p = true) :
    fetchWord s = .stops (instructionAbort (s.drawn 1) (permissionFault level)) := by
  simp only [fetchWord, hg, regimeReading_of_nil hheld, hx, hp, if_true]

theorem fetchWord_externalAbort (hp : executeNever s g p = false) (hea : ea = true) :
    fetchWord s = .stops (instructionAbort (s.drawn 1) 0b010000#6) := by
  simp only [fetchWord, hg, regimeReading_of_nil hheld, hx, hp, hea, Bool.false_eq_true, if_false,
    if_true]

theorem fetchWord_ok (hp : executeNever s g p = false) (hea : ea = false) :
    fetchWord s = .word (wordAt s.mem pa) (s.drawn (if p.uxn = none then 1 else 0)) := by
  simp only [fetchWord, hg, regimeReading_of_nil hheld, hx, hp, hea, Bool.false_eq_true, if_false]

end Fetch

/-- At EL3 the address is taken as it is (assumption 8). -/
theorem fetchWord_EL3 {s : State} (h : s.pstate.el = .EL3) :
    fetchWord s = .word (wordAt s.mem s.pc.toNat) s := by
  simp only [fetchWord, fetchRegime, h]

/-! ## The instruction side -/

theorem instructionSide_of_pending {s : State}
    (h : s.pc.extractLsb' 0 2 ≠ 0#2 ∨ s.pstate.il = true) : ∃ u, instructionSide s = some u := by
  unfold instructionSide
  split
  · exact ⟨_, rfl⟩
  · split_ifs with halign hil
    · exact ⟨_, rfl⟩
    · exact ⟨_, rfl⟩
    · exact absurd h (not_or.2 ⟨halign, hil⟩)

theorem instructionSide_none {s : State} (hev : s.dbg.instrEvents = [])
    (hpc : s.pc.extractLsb' 0 2 = 0#2) (hil : s.pstate.il = false) : instructionSide s = none := by
  simp [instructionSide, hev, hpc, hil]

theorem instructionOrException_of_side {s u : State}
    (h : instructionSide { s with events := [] } = some u) : instructionOrException s = .stops u := by
  simp only [instructionOrException, h]

theorem instructionOrException_of_fetch_stops {s u : State}
    (hside : instructionSide { s with events := [] } = none)
    (h : fetchWord { s with events := [] } = .stops u) : instructionOrException s = .stops u := by
  simp only [instructionOrException, hside, h]

theorem instructionOrException_of_fetch_word {s u : State} {w : BitVec 32}
    (hside : instructionSide { s with events := [] } = none)
    (h : fetchWord { s with events := [] } = .word w u) :
    instructionOrException s = .word w (u.record [.executed s.pstate.el]) := by
  simp only [instructionOrException, hside, h]

/-- The four bytes at an address are one instruction word (R70). -/
theorem decodeWord_wordAt {m : Memory} {pa : Nat} {i : Instr}
    (h : decode (m.readBytes pa 4) = .ok (i, [])) : decodeWord (wordAt m pa) = .ok i := by
  have hword : decode (m.readBytes pa 4) =
      match decodeWord (wordAt m pa) with
      | .ok j => .ok (j, [])
      | .error e => .error e := rfl
  rw [hword] at h
  split at h
  · cases h
    assumption
  · cases h

/-- Settles O9: with nothing pending the fetch answers the word at the translated address, and the step runs
what it decodes to. -/
theorem stepRunsBytesAtPc : Obligations.StepRunsBytesAtPc := by
  intro s i hhalt hel0 hev hpc hil
  have hside : instructionSide { s with events := [] } = none := instructionSide_none hev hpc hil
  refine ⟨fun g pa p level wb hg hheld hx hp hdec => ?_, fun hel hdec => ?_⟩
  · have hfetch := fetchWord_ok (s := { s with events := [] }) hg hheld hx hp rfl
    exact step_of_word hhalt hel0 (instructionOrException_of_fetch_word hside hfetch)
      (decodeWord_wordAt hdec)
  · have hfetch := fetchWord_EL3 (s := { s with events := [] }) hel
    exact step_of_word hhalt hel0 (instructionOrException_of_fetch_word hside hfetch)
      (decodeWord_wordAt hdec)

/-- The Instruction Abort of a fetch that drew values, from the state the step starts in. -/
theorem instructionAbort_of_fetch {s : State} (hs : s.Inv) (n : Nat) (fsc : BitVec 6) :
    AbortsFetch fsc (baseTarget s) s
      (instructionAbort (State.drawn { s with events := [] } n) fsc) := by
  obtain ⟨-, hregs, -⟩ := hs
  exact instructionAbort_spec (s := State.drawn { s with events := [] } n) hregs rfl fsc

/-- Settles O10: the step looks at the instruction side first, and a fetch that fails is an Instruction
Abort. -/
theorem instructionSideExceptionFirst : Obligations.InstructionSideExceptionFirst := by
  intro s hhalt hel0
  refine ⟨fun u hu => step_of_stops hhalt hel0 (instructionOrException_of_side hu),
    fun h => instructionSide_of_pending h, fun g hs hside hg hheld => ?_⟩
  have hstep {u : State} (hu : fetchWord { s with events := [] } = .stops u) : step s = .next u :=
    step_of_stops hhalt hel0 (instructionOrException_of_fetch_stops hside hu)
  refine ⟨fun fsc hx => ?_, fun pa p level wb ea hx => ⟨fun hp => ?_, fun hp hea => ?_⟩⟩
  · exact ⟨_, hstep (fetchWord_fault (s := { s with events := [] }) hg hheld hx),
      instructionAbort_of_fetch hs 0 fsc⟩
  · exact ⟨_, hstep (fetchWord_denied (s := { s with events := [] }) hg hheld hx hp),
      instructionAbort_of_fetch hs 1 _⟩
  · exact ⟨_, hstep (fetchWord_externalAbort (s := { s with events := [] }) hg hheld hx hp hea),
      instructionAbort_of_fetch hs 1 _⟩

end Sys2Proof.Proofs
end

section
/-! PROOFS. The Effective values of HCR_EL2 (R13 to R17, R128, R147), the classifier of R170 with its outcome
table (R171), and Table D8-120 (R80 to R82, R157). -/

namespace Sys2Proof.Proofs

open Sys2Proof Sys2Proof.Machine

/-! ## Effective values -/

/-- HCR_EL2.NV before R128 looks at NV1: the `nv0` of `effNV`. -/
def effNVRaw (s : State) : Bool := s.cfg.haveNV && s.cfg.el2Enabled && s.hcr 42

/-- The stored pair stands unless NV is 0 and NV1 is 1 (R17). -/
theorem effNV_of_raw {s : State} (h : effNVRaw s = true ∨ effNV1Raw s = false) :
    effNV s = ⟨effNVRaw s, effNV1Raw s, effNVRaw s && effNV2Raw s (effNVRaw s), false⟩ := by
  have hno : (!effNVRaw s && effNV1Raw s) = false := by rcases h with h | h <;> simp [h]
  exact if_neg (Bool.eq_false_iff.1 hno)

/-- NV 0 with NV1 1 is the choice of R128. -/
theorem effNV_of_choice {s : State} (h : effNVRaw s = false) (h1 : effNV1Raw s = true) :
    (s.cfg.cuNV0NV1 = .asNV11 → effNV s = ⟨true, true, effNV2Raw s true, false⟩) ∧
      (s.cfg.cuNV0NV1 = .asNV00 → effNV s = ⟨false, false, false, false⟩) ∧
      (s.cfg.cuNV0NV1 = .trapOnly → effNV s = ⟨false, false, false, true⟩) := by
  have hraw : (s.cfg.haveNV && s.cfg.el2Enabled && s.hcr 42) = false := h
  refine ⟨fun hcu => ?_, fun hcu => ?_, fun hcu => ?_⟩ <;> simp [effNV, hraw, h1, hcu]

theorem effNVRaw_eq {s : State} (hnv : s.cfg.haveNV = true) (hel2 : s.cfg.el2Enabled = true) :
    effNVRaw s = s.hcr 42 := by
  rw [effNVRaw, hnv, hel2]; rfl

theorem effNV1Raw_iff (s : State) :
    effNV1Raw s = true ↔ s.cfg.haveNV = true ∧ s.cfg.e2h0 ≠ 0b1110#4 ∧ s.cfg.el2Enabled = true ∧
      s.hcr 43 = true := by
  unfold effNV1Raw nv1Res0
  split_ifs <;> simp_all

theorem effNV1Raw_eq {s : State} (hnv : s.cfg.haveNV = true) (hel2 : s.cfg.el2Enabled = true) :
    effNV1Raw s = (s.hcr 43 && !decide (s.cfg.e2h0 = 0b1110#4)) := by
  rw [Bool.eq_iff_iff, effNV1Raw_iff]
  simp [hnv, hel2, and_comm]

/-- `EffNV2_raw` while NV is 1 (R16). -/
theorem effNV2Raw_under_nv (s : State) :
    effNV2Raw s true =
      (s.cfg.haveNV2 && s.cfg.el2Enabled && (decide (s.cfg.nvFrac = 0b0001#4) || s.hcr 45)) := by
  unfold effNV2Raw
  cases s.cfg.haveNV2 <;> cases s.cfg.el2Enabled <;> by_cases h : s.cfg.nvFrac = 0b0001#4 <;> simp [h]

/-- Whichever way the pair resolves, NV2 counts only under NV (R147). -/
theorem effNV_nv2_eq (s : State) :
    (effNV s).nv2 = ((effNV s).nv && effNV2Raw s (effNV s).nv) := by
  by_cases h : effNVRaw s = true ∨ effNV1Raw s = false
  · rw [effNV_of_raw h]
  · simp only [not_or, Bool.not_eq_true, Bool.not_eq_false] at h
    obtain ⟨h11, h00, htrap⟩ := effNV_of_choice h.1 h.2
    cases hcu : s.cfg.cuNV0NV1
    · rw [h11 hcu, Bool.true_and]
    · rw [h00 hcu, Bool.false_and]
    · rw [htrap hcu, Bool.false_and]

theorem effNV_nv2_under_nv {s : State} (h : (effNV s).nv = true) :
    (effNV s).nv2 = (s.cfg.haveNV2 && (decide (s.cfg.nvFrac = 0b0001#4) || s.hcr 45)) := by
  rw [effNV_nv2_eq, h, Bool.true_and, effNV2Raw_under_nv, effNV_el2Enabled (.inl h), Bool.and_true]

/-- Without FEAT_NV, or while EL2 is disabled, every Effective value is 0 (R2, 92 D21). -/
theorem effNV_of_inactive {s : State} (h : s.cfg.haveNV = false ∨ s.cfg.el2Enabled = false) :
    effNV s = ⟨false, false, false, false⟩ := by
  have h0 : effNVRaw s = false := by rcases h with h | h <;> simp [effNVRaw, h]
  have h1 : effNV1Raw s = false := by
    rw [← Bool.not_eq_true, effNV1Raw_iff]
    rcases h with h | h <;> simp [h]
  rw [effNV_of_raw (.inr h1), h0, h1, Bool.false_and]

/-- Where NV1 is RES0 it counts as 0, and R128 has nothing to choose (R13). -/
theorem effNV_of_nv1_res0 {s : State} (h : s.cfg.e2h0 = 0b1110#4) :
    (effNV s).nv1 = false ∧ (effNV s).trapOnly = false := by
  have h1 : effNV1Raw s = false := by
    rw [← Bool.not_eq_true, effNV1Raw_iff]
    simp [h]
  rw [effNV_of_raw (.inr h1), h1]
  exact ⟨rfl, rfl⟩

/-- Settles O12: the pair stands as stored or is the choice of R128, and NV2 is that of R16 under NV. -/
theorem resolvedTripleFollowsParameters : Obligations.ResolvedTripleFollowsParameters := by
  intro s
  refine ⟨effNV_of_inactive, effNV_of_nv1_res0, fun h2 => ?_, fun hfrac hnv2 => ?_,
    fun hnv hel2 => ⟨fun hstored => ?_, fun hfrac hnv2 hn => ?_, fun h42 h43 he2h0 => ?_⟩⟩
  · have hn := effNV_nv2_nv h2
    rw [effNV_nv2_under_nv hn, Bool.and_eq_true] at h2
    exact ⟨hn, h2.1⟩
  · cases hn : (effNV s).nv
    · exact effNV_nv2_of_nv_false hn
    · rw [effNV_nv2_under_nv hn, hnv2, decide_eq_true hfrac]
      rfl
  · have hraw : effNVRaw s = true ∨ effNV1Raw s = false := by
      rw [effNVRaw_eq hnv hel2, effNV1Raw_eq hnv hel2]
      rcases hstored with h | h | h <;> simp [h]
    rw [effNV_of_raw hraw, effNVRaw_eq hnv hel2, effNV1Raw_eq hnv hel2]
    exact ⟨rfl, rfl, rfl⟩
  · rw [effNV_nv2_under_nv hn, hnv2, decide_eq_false hfrac]
    rfl
  · have h0 : effNVRaw s = false := (effNVRaw_eq hnv hel2).trans h42
    have h1 : effNV1Raw s = true := (effNV1Raw_iff s).2 ⟨hnv, he2h0, hel2, h43⟩
    obtain ⟨h11, h00, htrap⟩ := effNV_of_choice h0 h1
    exact ⟨fun hcu => by rw [h11 hcu]; exact ⟨rfl, rfl, rfl⟩, h00, htrap⟩

/-! ## Where no rule fires -/

theorem underEL2_of_inactive {s : State}
    (h : s.pstate.el ≠ .EL1 ∨ s.cfg.haveNV = false ∨ s.cfg.el2Enabled = false) :
    s.cfg.haveNV = false ∨ underEL2 s = false := by
  rcases h with h | h | h
  · exact .inr (Bool.eq_false_iff.2 fun hu => h ((underEL2_iff s).1 hu).1)
  · exact .inl h
  · exact .inr (Bool.eq_false_iff.2 fun hu => by simp [((underEL2_iff s).1 hu).2] at h)

/-- Settles O15: every rule is conditioned on EL1 under EL2 and on FEAT_NV. -/
theorem rulesFireOnlyAtEL1 : Obligations.RulesFireOnlyAtEL1 := by
  intro s r dir b op h
  have hclass : classifyRegAccess s r dir b = .unchanged :=
    classifyRegAccess_of_inactive (by tauto) r dir b
  have hactive : nv1Active s = false := by
    rcases h with h | h
    · simp [nv1Active, h]
    · simp [nv1Active, effNV_of_inactive h]
  rcases underEL2_of_inactive h with hnv | hu
  · have heff := effNV_of_inactive (.inl hnv)
    exact ⟨hclass, by simp [atTrapped, effAT, heff, hnv], by simp [tlbiTrapped, heff],
      by simp [eretTrapped, heff], by simp [smcTrapped, heff], hactive⟩
  · exact ⟨hclass, by simp [atTrapped, hu], by simp [tlbiTrapped, hu], by simp [eretTrapped, hu],
      by simp [smcTrapped, hu], hactive⟩

/-! ## The last part of R170 -/

theorem not_inactive {s : State} (hel : s.pstate.el = .EL1) (hel2 : s.cfg.el2Enabled = true)
    (hfeat : s.cfg.haveNV = true) :
    ¬(s.pstate.el ≠ .EL1 ∨ s.cfg.el2Enabled = false ∨ s.cfg.haveNV = false) := by
  simp [hel, hel2, hfeat]

/-- The 128-bit form is for 128-bit registers (R166). -/
theorem not_refused_form {c : Config} {r : RegName} {b : Bool} (h : b = true → isReg128 c r = true) :
    ¬(b && !isReg128 c r) = true := by
  cases b
  · simp
  · simp [h rfl]

/-- At EL1 with FEAT_NV an implemented register that no rule reads as a constant (R123) or redirects (R148)
comes to the last part of R170. -/
theorem classifyRegAccess_eq_tail {s : State} {r : RegName} {dir : Dir} {b : Bool}
    (hel : s.pstate.el = .EL1) (hel2 : s.cfg.el2Enabled = true) (hfeat : s.cfg.haveNV = true)
    (himpl : implemented s.cfg r = true) (h128 : b = true → isReg128 s.cfg r = true)
    (hcur : ¬(r = ⟨.CurrentEL, .none, 0⟩ ∧ dir = .read ∧ (effNV s).nv = true))
    (hred : (effNV s).nv2 = true → redirectTarget r = none) :
    classifyRegAccess s r dir b = classifyTail s r dir b := by
  rw [classifyRegAccess, if_neg (not_inactive hel hel2 hfeat), if_neg (not_refused_form h128),
    if_neg (by simp [himpl]), if_neg hcur]
  cases h2 : (effNV s).nv2
  · simp
  · simp [hred h2]

theorem nv1TrapFires_iff (s : State) (r : RegName) :
    nv1TrapFires s r = true ↔
      s.pstate.el = .EL1 ∧
        (((effNV s).nv = true ∧ (effNV s).nv1 = true) ∨ (effNV s).trapOnly = true) ∧
        nv1Set r = true ∧ (r ≠ ⟨.SCXTNUM, .EL1, 0⟩ ∨ implemented s.cfg r = true) := by
  simp only [nv1TrapFires, Bool.and_eq_true, Bool.or_eq_true, beq_iff_eq, bne_iff_ne, and_assoc]

/-- Whether NV or NV1 traps the access. -/
theorem classifyTail_of_no_offset {s : State} {r : RegName} (hoff : transformOffset s r = none)
    (dir : Dir) (b : Bool) :
    classifyTail s r dir b =
      if nvTrapFires s r dir = true ∨ nv1TrapFires s r = true then
        if b = true then .unspecified else .trapEL2 0x18#6
      else .unchanged := by
  simp only [classifyTail, hoff, Bool.or_eq_true]

/-- A register with an offset is transformed if a trap it belongs to fires, or if it belongs to none and no
other trap is due (R163, R165). -/
theorem classifyTail_of_offset {s : State} {r : RegName} {off : BitVec 12} {dir : Dir}
    (hoff : transformOffset s r = some off)
    (hset : nvTrapSet r = true ∨ nv1Set r = true →
      nvTrapFires s r dir = true ∨ nv1TrapFires s r = true)
    (hother : nvTrapSet r = false → nv1Set r = false → otherTrapOn s r dir = false) (b : Bool) :
    classifyTail s r dir b = .transform off := by
  by_cases h : nvTrapSet r = true ∨ nv1Set r = true
  · simp [classifyTail, hoff, h, hset h]
  · have h' := h
    simp only [not_or, Bool.not_eq_true] at h'
    simp [classifyTail, hoff, h'.1, h'.2, hother h'.1 h'.2]

/-- The offset of an implemented register under NV2 is that of its column (R80, R155, R162). -/
theorem transformOffset_of_vncrOffset {s : State} {r : RegName} {off : BitVec 12}
    (hel : s.pstate.el = .EL1) (hnv2 : (effNV s).nv2 = true) (himpl : implemented s.cfg r = true)
    (hoff : vncrOffset s.cfg.row298 r (effNV s).nv1 = some off) :
    transformOffset s r = some off := by
  obtain ⟨-, hevent, -, -⟩ := vncrOffset_facts hoff
  simp [transformOffset, nv2Active, hel, effNV_nv2_nv hnv2, hnv2, himpl, hevent, hoff]

/-- A register of the table under NV2 with the guards of R101 false and no other trap due: the NV1 trap of
one that NV1 traps fires, since such a register is in no column but that of NV1. -/
theorem classifyRegAccess_transform {s : State} {r : RegName} {dir : Dir} {off : BitVec 12}
    {b : Bool} (hel : s.pstate.el = .EL1) (hnv2 : (effNV s).nv2 = true)
    (himpl : implemented s.cfg r = true) (h128 : b = true → isReg128 s.cfg r = true)
    (hoff : vncrOffset s.cfg.row298 r (effNV s).nv1 = some off)
    (hundef : nvTrapSet r = true → undefAtEL2 s r dir = false)
    (hel3 : nv1Set r = false → el3TrapHigher s r dir = false)
    (hother : nvTrapSet r = false → nv1Set r = false → otherTrap s (.reg r dir) = none) :
    classifyRegAccess s r dir b = .transform off := by
  obtain ⟨hred, -, hcur, hcol⟩ := vncrOffset_facts hoff
  have hnv := effNV_nv2_nv hnv2
  rw [classifyRegAccess_eq_tail hel (effNV_el2Enabled (.inl hnv)) (effNV_haveNV (.inl hnv)) himpl
    h128 (fun h => hcur h.1) (fun _ => hred)]
  refine classifyTail_of_offset (transformOffset_of_vncrOffset hel hnv2 himpl hoff) ?_ ?_ b
  · rintro (hset | hset)
    · exact .inl ((nvTrapFires_iff s r dir).2
        ⟨hel, hnv, hset, hundef hset, hel3 (nvTrapSet_nv1Set hset)⟩)
    · have hnv1 : (effNV s).nv1 = true := by
        by_contra hn
        rw [hcol (Bool.eq_false_iff.2 hn)] at hset
        cases hset
      exact .inr ((nv1TrapFires_iff s r).2 ⟨hel, .inl ⟨hnv, hnv1⟩, hset, .inr himpl⟩)
  · intro hset hset1
    simp [otherTrapOn, hother hset hset1, hel3 hset1]

theorem redirectTarget_ne_CurrentEL {r r' : RegName} (h : redirectTarget r = some r') :
    r ≠ ⟨.CurrentEL, .none, 0⟩ := by
  rintro rfl
  cases h

/-- Under NV2 FEAT_NV2 redirects the five registers, and R130 refuses their 128-bit form (R148). -/
theorem classifyRegAccess_of_redirect {s : State} {r r' : RegName} {dir : Dir} {b : Bool}
    (hel : s.pstate.el = .EL1) (hnv2 : (effNV s).nv2 = true) (himpl : implemented s.cfg r = true)
    (h128 : b = true → isReg128 s.cfg r = true) (hred : redirectTarget r = some r') :
    classifyRegAccess s r dir b = if b = true then .unspecified else .redirect r' := by
  have hnv := effNV_nv2_nv hnv2
  rw [classifyRegAccess,
    if_neg (not_inactive hel (effNV_el2Enabled (.inl hnv)) (effNV_haveNV (.inl hnv))),
    if_neg (not_refused_form h128), if_neg (by simp [himpl]),
    if_neg (fun h => redirectTarget_ne_CurrentEL hred h.1), if_pos (by simp [hnv, hnv2])]
  simp only [hred]

theorem nv1Set_not_special {r : RegName} (h : nv1Set r = true) :
    redirectTarget r = none ∧ r ≠ ⟨.CurrentEL, .none, 0⟩ := by
  simp only [nv1Set, Bool.or_eq_true, beq_iff_eq] at h
  rcases h with ((rfl | rfl) | rfl) | rfl <;> decide

theorem nvTrapSet_not_CurrentEL {r : RegName} (h : nvTrapSet r = true) :
    r ≠ ⟨.CurrentEL, .none, 0⟩ := by
  rintro rfl
  exact absurd h (by decide)

/-! ## The outcome table -/

/-- Settles O13: the rows of R171 are the branches of the classifier, with the guards false. -/
theorem classifierFollowsOutcomeTable : Obligations.ClassifierFollowsOutcomeTable := by
  intro s r dir hel hel2 himpl hundef hel3 hother
  have hfires : nvTrapFires s r dir = true ↔ (effNV s).nv = true ∧ nvTrapSet r = true := by
    simp [nvTrapFires_iff, hel, hundef, hel3]
  have hfires1 : nv1TrapFires s r = true ↔
      (((effNV s).nv = true ∧ (effNV s).nv1 = true) ∨ (effNV s).trapOnly = true) ∧
        nv1Set r = true := by
    simp [nv1TrapFires_iff, hel, himpl]
  have htail (hfeat : s.cfg.haveNV = true)
      (hcur : ¬(r = ⟨.CurrentEL, .none, 0⟩ ∧ dir = .read ∧ (effNV s).nv = true))
      (hred : (effNV s).nv2 = true → redirectTarget r = none) :
      classifyRegAccess s r dir false = classifyTail s r dir false :=
    classifyRegAccess_eq_tail hel hel2 hfeat himpl (by simp) hcur hred
  have hcurOf (h : r = ⟨.CurrentEL, .none, 0⟩ → dir = .write) :
      ¬(r = ⟨.CurrentEL, .none, 0⟩ ∧ dir = .read ∧ (effNV s).nv = true) := by
    rintro ⟨hr, hd, -⟩
    rw [h hr] at hd
    cases hd
  have htrapOnly (hnv : (effNV s).nv = true) : (effNV s).trapOnly = false := by
    by_contra hn
    rw [effNV_trapOnly (Bool.not_eq_false _ ▸ hn)] at hnv
    cases hnv
  refine ⟨fun hnv => ?_, fun hnv hr hd => ?_, fun hnv hnv2 hcur => ?_, fun hnv2 r' hr' => ?_,
    fun hnv2 off hoff => ?_, fun hnv2 hred hoff hcur => ?_⟩
  · have hnv2 := effNV_nv2_of_nv_false hnv
    cases hfeat : s.cfg.haveNV
    · rw [classifyRegAccess_of_inactive (.inr (.inr hfeat)), effNV_of_inactive (.inl hfeat)]
      simp
    · rw [htail hfeat (by simp [hnv]) (by simp [hnv2]),
        classifyTail_of_no_offset (transformOffset_of_nv2_false hnv2 r)]
      simp [hfires, hfires1, hnv]
  · subst hr hd
    exact classifyRegAccess_CurrentEL_under_nv himpl hel hnv
  · rw [htail (effNV_haveNV (.inl hnv)) (hcurOf hcur) (by simp [hnv2]),
      classifyTail_of_no_offset (transformOffset_of_nv2_false hnv2 r)]
    simp [hfires, hfires1, hnv, htrapOnly hnv]
  · exact classifyRegAccess_of_redirect hel hnv2 himpl (by simp) hr'
  · exact classifyRegAccess_transform hel hnv2 himpl (by simp) hoff (fun _ => hundef)
      (fun _ => hel3) (fun _ _ => hother)
  · have hnv := effNV_nv2_nv hnv2
    have hnot1 : ¬((effNV s).nv1 = true ∧ nv1Set r = true) := by
      rintro ⟨hnv1, hset⟩
      obtain ⟨off, h⟩ := vncrOffset_nv1Set (k := s.cfg.row298) hset
      rw [hnv1, h] at hoff
      cases hoff
    rw [htail (effNV_haveNV (.inl hnv)) (hcurOf hcur) (fun _ => hred),
      classifyTail_of_no_offset (transformOffset_of_vncrOffset_none hoff)]
    simp [hfires, hfires1, hnv, htrapOnly hnv, hnot1]

/-- Settles O14: with its guard false neither trap fires, and another trap keeps a transformation off. -/
theorem guardedAccessIsUnchanged : Obligations.GuardedAccessIsUnchanged := by
  intro s r dir hel hel2 himpl hred
  refine ⟨fun hset hguard => ?_, fun hnv2 hset hset1 hcur hother => ?_⟩
  · cases hfeat : s.cfg.haveNV
    · exact classifyRegAccess_of_inactive (.inr (.inr hfeat)) r dir false
    · have hfires : nvTrapFires s r dir = false := by
        rw [← Bool.not_eq_true, nvTrapFires_iff]
        rintro ⟨-, -, -, hu, h3⟩
        rcases hguard with h | h <;> simp_all
      have hfires1 : nv1TrapFires s r = false := by simp [nv1TrapFires, nvTrapSet_nv1Set hset]
      rw [classifyRegAccess_eq_tail hel hel2 hfeat himpl (by simp)
        (fun h => nvTrapSet_not_CurrentEL hset h.1) hred, classifyTail]
      split <;> simp [hset, hfires, hfires1]
  · have hnv := effNV_nv2_nv hnv2
    have hon : otherTrapOn s r dir = true := by simpa [otherTrapOn] using hother
    rw [classifyRegAccess_eq_tail hel hel2 (effNV_haveNV (.inl hnv)) himpl (by simp)
      (fun h => hcur h.1) hred, classifyTail]
    split <;> simp [hset, hset1, hon, nvTrapFires, nv1TrapFires]

theorem nv1Set_of_mem {r : RegName}
    (h : r ∈ [(⟨.VBAR, .EL1, 0⟩ : RegName), ⟨.ELR, .EL1, 0⟩, ⟨.SPSR, .EL1, 0⟩,
      ⟨.SCXTNUM, .EL1, 0⟩]) : nv1Set r = true := by
  simpa [nv1Set, or_assoc] using h

/-- A 64-bit access that the classifier transforms. -/
theorem transformsTo_of_classify {s : State} {i : Instr} {e : SysEnc} {rt : BitVec 5} {dir : Dir}
    {off : BitVec 12} (hi : (i = .mrs e rt ∧ dir = .read) ∨ (i = .msr e rt ∧ dir = .write))
    (hc : classifyRegAccess s (sysRegName s.cfg e) dir false = .transform off) :
    TransformsTo s i off 8 dir := by
  rcases hi with ⟨rfl, rfl⟩ | ⟨rfl, rfl⟩
  · exact .inl ⟨e, rt, rfl, rfl, rfl, hc⟩
  · exact .inr (.inl ⟨e, rt, rfl, rfl, rfl, hc⟩)

/-- Settles O17: the NV1 trap fires, and FEAT_NV2 puts the transformation before it. -/
theorem nv1TrapsItsFourRegisters : Obligations.Nv1TrapsItsFourRegisters := by
  rintro s i e rt dir hi ⟨-, hwf, -⟩ hel hel2 hmem himpl hnv1
  have hset := nv1Set_of_mem hmem
  obtain ⟨hred, hcur⟩ := nv1Set_not_special hset
  have hfeat : s.cfg.haveNV = true := effNV_haveNV (hnv1.imp_left And.left)
  have hfires : nv1TrapFires s (sysRegName s.cfg e) = true :=
    (nv1TrapFires_iff s _).2 ⟨hel, hnv1, hset, .inr himpl⟩
  refine ⟨fun hnv2 => ?_, fun hnv2 => ?_⟩
  · have hc : classifyRegAccess s (sysRegName s.cfg e) dir false = .trapEL2 0x18#6 := by
      rw [classifyRegAccess_eq_tail hel hel2 hfeat himpl (by simp) (fun h => hcur h.1)
        (fun _ => hred), classifyTail_of_no_offset (transformOffset_of_nv2_false hnv2 _)]
      simp [hfires]
    exact ⟨_, exec_of_trapEL2 hi hc, trapToEL2_traps _ _ hwf hel⟩
  · have hpair : (effNV s).nv1 = true := by
      rcases hnv1 with h | h
      · exact h.2
      · rw [effNV_trapOnly h] at hnv2
        cases hnv2
    obtain ⟨off, hoff⟩ := vncrOffset_nv1Set (k := s.cfg.row298) hset
    have hnvSet : nvTrapSet (sysRegName s.cfg e) = false := by
      by_contra h
      rw [nvTrapSet_nv1Set (Bool.not_eq_false _ ▸ h)] at hset
      cases hset
    refine ⟨off, hoff, transformsTo_of_classify hi ?_⟩
    exact classifyRegAccess_transform hel hnv2 himpl (by simp) (by rw [hpair]; exact hoff)
      (fun h => by simp [hnvSet] at h) (fun h => by simp [hset] at h)
      (fun _ h => by simp [hset] at h)

/-! ## Pairs that R130 refuses -/

/-- The 128-bit form of an access that is trapped or redirected in the 64-bit form is `Unspecified`. -/
theorem classifyRegAccess_unspecified {s : State} {r : RegName} {dir : Dir}
    (hel : s.pstate.el = .EL1) (himpl : implemented s.cfg r = true)
    (h128 : isReg128 s.cfg r = true) (hcur : r ≠ ⟨.CurrentEL, .none, 0⟩)
    (hoff : transformOffset s r = none)
    (hfires : nvTrapFires s r dir = true ∨ nv1TrapFires s r = true) :
    classifyRegAccess s r dir true = .unspecified := by
  have hnv : (effNV s).nv = true ∨ (effNV s).trapOnly = true := by
    rcases hfires with h | h
    · obtain ⟨-, hnv, -⟩ := (nvTrapFires_iff s r dir).1 h
      exact .inl hnv
    · obtain ⟨-, hnv, -⟩ := (nv1TrapFires_iff s r).1 h
      exact hnv.imp_left And.left
  by_cases hred : (effNV s).nv2 = true ∧ ∃ r', redirectTarget r = some r'
  · obtain ⟨hnv2, r', hr'⟩ := hred
    exact classifyRegAccess_of_redirect hel hnv2 himpl (fun _ => h128) hr'
  · have hred' : (effNV s).nv2 = true → redirectTarget r = none := fun h2 =>
      Option.eq_none_iff_forall_ne_some.2 fun r' hr' => hred ⟨h2, r', hr'⟩
    rw [classifyRegAccess_eq_tail hel (effNV_el2Enabled hnv) (effNV_haveNV hnv) himpl
      (fun _ => h128) (fun h => hcur h.1) hred', classifyTail_of_no_offset hoff, if_pos hfires, if_pos rfl]

theorem exec_mrrs (e : SysEnc) (rt : BitVec 5) (s : State) :
    exec (.mrrs e rt) s = execMrrs e rt s := rfl

theorem exec_msrr (e : SysEnc) (rt : BitVec 5) (s : State) :
    exec (.msrr e rt) s = execMsrr e rt s := rfl

/-- Settles O53: the classifier answers `Unspecified`, which both instructions refuse, or transforms. -/
theorem pairAccessTrappedInTheShortFormIsRefused :
    Obligations.PairAccessTrappedInTheShortFormIsRefused := by
  rintro s e rt r rfl hel hel2 h128 himpl hcur hguards
  refine ⟨fun hno htrap => ?_, fun hnv2 off hoff => ?_⟩
  · have hoff : transformOffset s (sysRegName s.cfg e) = none := by
      rcases hno with h | h
      · exact transformOffset_of_nv2_false h _
      · exact transformOffset_of_vncrOffset_none h
    have hclass (dir : Dir) : classifyRegAccess s (sysRegName s.cfg e) dir true = .unspecified := by
      obtain ⟨hundef, hel3, -⟩ := hguards dir
      refine classifyRegAccess_unspecified hel himpl h128 hcur hoff ?_
      rcases htrap with ⟨hnv, hset⟩ | ⟨hnv1, hset⟩
      · exact .inl ((nvTrapFires_iff s _ dir).2 ⟨hel, hnv, hset, hundef, hel3⟩)
      · exact .inr ((nv1TrapFires_iff s _).2 ⟨hel, hnv1, hset, .inr himpl⟩)
    simp only [exec_mrrs, exec_msrr, execMrrs, execMsrr, hclass, and_self]
  · have hclass (dir : Dir) : classifyRegAccess s (sysRegName s.cfg e) dir true = .transform off := by
      obtain ⟨hundef, hel3, hother⟩ := hguards dir
      exact classifyRegAccess_transform hel hnv2 himpl (fun _ => h128) hoff (fun _ => hundef)
        (fun _ => hel3) (fun _ _ => hother)
    exact ⟨.inr (.inr (.inl ⟨e, rt, rfl, rfl, rfl, hclass .read⟩)),
      .inr (.inr (.inr ⟨e, rt, rfl, rfl, rfl, hclass .write⟩))⟩

/-! ## Table D8-120 -/

/-- The registers of an indexed row with their offsets (R82). -/
def familyEntries (b : RegBase) (first count : Nat) : List (RegName × BitVec 12) :=
  (List.range count).map fun n =>
    (⟨b, .EL2, BitVec.ofNat 16 n⟩, BitVec.ofNat 12 (first + 8 * n))

/-- One column of Table D8-120 with its indexed rows written out (R81, R82). -/
def columnEntries (k : Row298) (nv1 : Bool) : List (RegName × BitVec 12) :=
  (vncrRows k).map (fun row => (row.name nv1, row.offset)) ++
    (familyEntries .ICH_LR 0x400 16 ++ familyEntries .ICH_AP0R 0x480 4 ++
      familyEntries .ICH_AP1R 0x4A0 4 ++ familyEntries .AMEVCNTVOFF0 0xA00 16 ++
      familyEntries .AMEVCNTVOFF1 0xA80 16)

theorem mem_familyEntries {r : RegName} {first count : Nat} (hs : r.sfx = .EL2)
    (hn : r.idx.toNat < count) :
    (r, BitVec.ofNat 12 (first + 8 * r.idx.toNat)) ∈ familyEntries r.base first count := by
  obtain ⟨b, sfx, n⟩ := r
  cases hs
  exact List.mem_map.2 ⟨n.toNat, List.mem_range.2 hn, by rw [BitVec.ofNat_toNat, BitVec.setWidth_eq]⟩

/-- The lookup of R80 answers an entry of its column. -/
theorem mem_columnEntries {k : Row298} {r : RegName} {nv1 : Bool} {off : BitVec 12}
    (h : vncrOffset k r nv1 = some off) : (r, off) ∈ columnEntries k nv1 := by
  unfold vncrOffset at h
  split at h
  · rename_i first count hf
    split at h
    · rename_i hs
      cases h
      have hmem := mem_familyEntries (first := first) hs.1 hs.2
      refine List.mem_append_right _ ?_
      simp only [List.mem_append]
      unfold vncrFamily at hf
      split at hf <;> cases hf <;> simp_all
    · cases h
  · split at h
    · rename_i row hr
      cases h
      have he := List.find?_some hr
      rw [beq_iff_eq] at he
      exact List.mem_append_left _
        (List.mem_map.2 ⟨row, List.mem_of_find?_eq_some hr, by rw [he]⟩)
    · cases h

theorem columnEntries_inPage (k : Row298) (nv1 : Bool) :
    ∀ p ∈ columnEntries k nv1, p.2.toNat % 8 = 0 ∧ p.2.toNat + 16 ≤ 4096 := by
  cases k <;> cases nv1 <;> decide +kernel

theorem columnEntries_offsets_nodup (k : Row298) (nv1 : Bool) :
    ((columnEntries k nv1).map Prod.snd).Nodup := by
  cases k <;> cases nv1 <;> decide +kernel

/-- A 128-bit register has its slot at a multiple of 16 (R62). -/
theorem slot_aligned_of_isReg128 {c : Config} {r : RegName} {nv1 : Bool} {off : BitVec 12}
    (hoff : vncrOffset c.row298 r nv1 = some off) (h : isReg128 c r = true) :
    off.toNat % 16 = 0 := by
  simp only [isReg128, Bool.and_eq_true] at h
  have haligned : slotAligned16 c.row298 r nv1 = true := by
    cases nv1
    · exact h.1.2
    · exact h.2
  simp only [slotAligned16, hoff, beq_iff_eq] at haligned
  have hlow := congrArg BitVec.toNat haligned
  simpa [BitVec.extractLsb'_toNat] using hlow

/-- Settles O40: the column written out has each offset once, aligned and in the page. -/
theorem offsetsAreUniqueAndAligned : Obligations.OffsetsAreUniqueAndAligned := by
  intro k nv1 r r' off h
  have hmem := mem_columnEntries h
  obtain ⟨h8, hpage⟩ := columnEntries_inPage k nv1 _ hmem
  obtain ⟨hred, -⟩ := vncrOffset_facts h
  refine ⟨h8, hpage, hred, fun h' => ?_, fun c hc h128 => ?_⟩
  · have heq := List.inj_on_of_nodup_map (columnEntries_offsets_nodup k nv1)
      (mem_columnEntries h') hmem rfl
    exact congrArg Prod.fst heq
  · subst hc
    exact slot_aligned_of_isReg128 h h128

end Sys2Proof.Proofs
end

section
/-! PROOFS. Exceptions that are not the NV traps: SMC (R119), traps to EL3 and traps of the base architecture
(R101, R163, R165), UNDEFINED (R100, R161), and exception returns (R131, R216). -/

namespace Sys2Proof.Proofs

open Sys2Proof Sys2Proof.Machine

/-! ## SMC -/

theorem issSmc_eq (imm : BitVec 16) : issSmc imm = imm.setWidth 25 := by
  apply BitVec.eq_of_toNat_eq
  rw [issSmc, BitVec.toNat_append, BitVec.toNat_setWidth]
  have := imm.isLt
  simp
  omega

theorem effTSC_iff (s : State) : effTSC s = true ↔ s.cfg.el2Enabled = true ∧ s.hcr 19 = true := by
  rw [effTSC, Bool.and_eq_true]

theorem smcTrapped_of_haveEL3 {s : State} (h : s.cfg.haveEL3 = true) : smcTrapped s = false := by
  simp [smcTrapped, h]

theorem exec_smc_of_trapped {s : State} (h : smcTrapped s = true) (imm : BitVec 16) :
    exec (.smc imm) s = .next (trapToEL2 0x17#6 (issSmc imm) s) := by
  rw [exec_smc, if_pos h]

theorem exec_smc_of_not_trapped {s : State} (h : smcTrapped s = false) (imm : BitVec 16) :
    exec (.smc imm) s = .next (baseSmc imm s) := by
  rw [exec_smc, if_neg (by simp [h])]

theorem baseSmc_of_tsc {s : State} (hel : s.pstate.el ≠ .EL0) (hel3 : s.cfg.haveEL3 = true)
    (hother : otherTrap s .smc = none) (h : (underEL2 s && effTSC s) = true) (imm : BitVec 16) :
    baseSmc imm s = trapToEL2 0x17#6 (issSmc imm) s := by
  simp only [baseSmc, hel, hel3, hother, h, Bool.true_eq_false, or_self, if_false, if_true]

/-- The call to EL3 (assumption 22). -/
def smcCall (imm : BitVec 16) (s : State) : Exc where
  target := .EL3
  syndrome := .value 0x17#6 (issSmc imm)
  far := .keep
  ret := s.pc + 4#64

theorem baseSmc_of_call {s : State} (hel : s.pstate.el ≠ .EL0) (hel3 : s.cfg.haveEL3 = true)
    (hother : otherTrap s .smc = none) (h : (underEL2 s && effTSC s) = false) (imm : BitVec 16) :
    baseSmc imm s = takeException (smcCall imm s) s := by
  simp only [baseSmc, hel, hel3, hother, h, Bool.true_eq_false, Bool.false_eq_true, or_self, if_false]
  rfl

/-- Settles O21: without EL3 the trap is that of R119, with EL3 that of HCR_EL2.TSC alone. -/
theorem secureMonitorCallTraps : Obligations.SecureMonitorCallTraps := by
  rintro s imm ⟨-, hwf, -⟩ hel hel2 htsc
  have hunder : underEL2 s = true := (underEL2_iff s).2 ⟨hel, hel2⟩
  have heff : effTSC s = true := (effTSC_iff s).2 ⟨hel2, htsc⟩
  rw [← issSmc_eq]
  refine ⟨fun hel3 hnv => ?_, fun hel3 hother => ?_⟩
  · have htrap : smcTrapped s = true := by simp [smcTrapped, hunder, hnv, hel3, heff]
    exact ⟨_, exec_smc_of_trapped htrap imm, trapToEL2_traps _ _ hwf hel⟩
  · have hrun := exec_smc_of_not_trapped (smcTrapped_of_haveEL3 hel3) imm
    rw [baseSmc_of_tsc (by simp [hel]) hel3 hother (by simp [hunder, heff])] at hrun
    exact ⟨_, hrun, trapToEL2_traps _ _ hwf hel⟩

/-! ## Entry to EL3 -/

theorem excTarget_EL3 (cur : EL) : excTarget .EL3 cur = .EL3 := by cases cur <;> rfl

/-- An entry to EL3 that reports no address (assumption 46). -/
theorem takeException_entersEL3 (x : Exc) {s : State} (hw : RegStore.wf s.regs = true)
    (ht : x.target = .EL3) (hf : x.far = .keep) :
    (takeException x s).pstate.el = .EL3 ∧
      (takeException x s).reg ⟨.ESR, .EL3, 0⟩ = esrAfter s x.syndrome ∧
      (takeException x s).reg ⟨.ELR, .EL3, 0⟩ = x.ret ∧
      (takeException x s).reg ⟨.SPSR, .EL3, 0⟩ = s.pstate.image ∧
      KeepsRegsBut [⟨.ESR, .EL3, 0⟩, ⟨.ELR, .EL3, 0⟩, ⟨.SPSR, .EL3, 0⟩] s (takeException x s) := by
  have hl : excTarget x.target s.pstate.el = .EL3 := by rw [ht, excTarget_EL3]
  have hspsr : (takeException x s).reg ⟨.SPSR, .EL3, 0⟩ = savedImage s .EL3 :=
    takeException_SPSR x hw hl rfl
  rw [savedImage_of_not_EL1_EL1 (by simp)] at hspsr
  refine ⟨hl, takeException_ESR x hw hl rfl, takeException_ELR x hw hl rfl, hspsr, fun r hr => ?_⟩
  simp only [List.mem_cons, List.not_mem_nil, or_false, not_or] at hr
  obtain ⟨hesr, helr, hspsr⟩ := hr
  exact takeException_reg128_other x s (by rw [hl]; exact hesr) (.inr hf) (by rw [hl]; exact helr)
    (by rw [hl]; exact hspsr)

theorem keepsGprs_takeException (x : Exc) (s : State) : KeepsGprsBut [] s (takeException x s) :=
  fun k _ => by simp only [State.x, takeException_gpr]

theorem keepsMemory_takeException (x : Exc) (s : State) : KeepsMemory s (takeException x s) :=
  fun a => by rw [takeException_mem]

theorem keepsSurroundings_takeException (x : Exc) (s : State) :
    KeepsSurroundings s (takeException x s) :=
  ⟨takeException_cfg x s, takeException_sec x s, takeException_mappings x s,
    takeException_profiling x s⟩

/-- Settles O27: with EL3 and nothing that traps it, SMC is the exception to EL3. -/
theorem secureMonitorCallEntersEL3 : Obligations.SecureMonitorCallEntersEL3 := by
  rintro s imm ⟨-, hwf, -⟩ hel hel3 hother htsc
  have hno : (underEL2 s && effTSC s) = false := by
    by_cases hel1 : s.pstate.el = .EL1
    · rw [htsc hel1, Bool.and_false]
    · simp [underEL2, hel1]
  have hrun := exec_smc_of_not_trapped (smcTrapped_of_haveEL3 hel3) imm
  rw [baseSmc_of_call hel hel3 hother hno] at hrun
  obtain ⟨hl, hesr, helr, hspsr, hregs⟩ :=
    takeException_entersEL3 (smcCall imm s) hwf rfl rfl
  have hsyn : esrAfter s (smcCall imm s).syndrome = esrValue 0x17#6 (issSmc imm) := rfl
  have himm : (imm.setWidth 25).setWidth 64 = imm.setWidth 64 :=
    BitVec.eq_of_toNat_eq (by simp only [BitVec.toNat_setWidth]; omega)
  rw [hsyn, esrValue_eq, issSmc_eq, himm] at hesr
  exact ⟨_, hrun, hl, hesr, helr, hspsr, hregs, keepsGprs_takeException _ s,
    keepsMemory_takeException _ s, takeException_tlbHeldNV _ s, keepsSurroundings_takeException _ s⟩

/-! ## The gate of a register access -/

/-- MRS and MSR that the classifier leaves to the base architecture take the exception of its gate. -/
theorem exec_of_baseGate {s t : State} {i : Instr} {e : SysEnc} {rt : BitVec 5} {dir : Dir}
    (hi : (i = .mrs e rt ∧ dir = .read) ∨ (i = .msr e rt ∧ dir = .write))
    (hc : classifyRegAccess s (sysRegName s.cfg e) dir false = .unchanged)
    (hg : baseGate s e (sysRegName s.cfg e) rt dir = some t) : exec i s = .next t := by
  rcases hi with ⟨rfl, rfl⟩ | ⟨rfl, rfl⟩
  · simp only [exec_mrs, execMrs, hc, baseRead, hg]
  · simp only [exec_msr, execMsr, hc, baseWrite, hg]

/-- The ISS of R201 is that of the word of MRS or MSR. -/
theorem issOfWord_encode {i : Instr} {e : SysEnc} {rt : BitVec 5} {dir : Dir}
    (hi : (i = .mrs e rt ∧ dir = .read) ∨ (i = .msr e rt ∧ dir = .write)) :
    issOfWord (encode i) = issSysreg e rt dir := by
  rcases hi with ⟨rfl, rfl⟩ | ⟨rfl, rfl⟩
  · exact issOfWord_sysRegWord (by decide) (by decide) e rt
  · exact issOfWord_sysRegWord (by decide) (by decide) e rt

theorem baseGate_of_el3Trap {s : State} {r : RegName} {dir : Dir}
    (himpl : implemented s.cfg r = true) (hel : s.pstate.el ≠ .EL3)
    (hreach : reachesEL3Trap s r dir = true) (hel3 : el3TrapHigher s r dir = true) (e : SysEnc)
    (rt : BitVec 5) : baseGate s e r rt dir = some (trapToEL3 (issSysreg e rt dir) s) := by
  rw [baseGate, if_neg (by simp [himpl]), if_pos ⟨hel, hreach, hel3⟩]

theorem baseGate_of_otherTrap {s : State} {r : RegName} {dir : Dir} {o : OtherTrap}
    (himpl : implemented s.cfg r = true) (hel3 : el3TrapHigher s r dir = false)
    (hundef : undefinedHere s r dir = false) (hother : otherTrap s (.reg r dir) = some o) (e : SysEnc)
    (rt : BitVec 5) :
    baseGate s e r rt dir = some (takeOtherTrap o (issSysreg e rt dir) s) := by
  rw [baseGate, if_neg (by simp [himpl]), if_neg (by simp [hel3]), if_neg (by simp [hundef])]
  simp only [hother]

theorem baseGate_of_absent {s : State} {r : RegName} (himpl : implemented s.cfg r = false)
    (e : SysEnc) (rt : BitVec 5) (dir : Dir) :
    baseGate s e r rt dir = some (undefinedInstr s) := by
  rw [baseGate, if_pos (by simp [himpl])]

theorem baseGate_of_undefined {s : State} {r : RegName} {dir : Dir}
    (hel3 : el3TrapHigher s r dir = false) (hundef : undefinedHere s r dir = true) (e : SysEnc)
    (rt : BitVec 5) : baseGate s e r rt dir = some (undefinedInstr s) := by
  rw [baseGate, if_neg (by simp [hel3] : ¬(_ ∧ _ ∧ _)), if_pos hundef, ite_self]

/-! ## Traps to EL3 and traps of the base architecture -/

theorem num_of_EL1 {l : EL} (h : l = .EL1) : l.num = 1 := by rw [h]; rfl

theorem esrValue_extract_iss (ec : BitVec 6) (iss : BitVec 25) :
    (esrValue ec iss).extractLsb' 0 25 = iss := by
  apply BitVec.eq_of_getLsbD_eq
  intro k hk
  simp only [esrValue, BitVec.getLsbD_extractLsb', BitVec.getLsbD_append, Nat.zero_add, hk,
    decide_true, Bool.true_and, if_true]

/-- Settles O22: the trap to EL3 keeps the NV trap and the transformation off, and the gate takes it. -/
theorem higherPriorityTrapGoesToEL3 : Obligations.HigherPriorityTrapGoesToEL3 := by
  rintro s i e rt dir hi ⟨-, hwf, -⟩ hel hel2 himpl hcase hel3
  have hreach : classifyRegAccess s (sysRegName s.cfg e) dir false = .unchanged ∧
      reachesEL3Trap s (sysRegName s.cfg e) dir = true := by
    rcases hcase with ⟨hnv, hset, hred, hundef⟩ | ⟨hnv2, hset, hset1, hoff⟩
    · obtain ⟨hguard, -⟩ := guardedAccessIsUnchanged s _ dir hel hel2 himpl hred
      have hunder : underEL2 s = true := (underEL2_iff s).2 ⟨hel, hel2⟩
      exact ⟨hguard hset (.inr hel3), by simp [reachesEL3Trap, hunder, hnv, hset, hundef]⟩
    · obtain ⟨off, hoff⟩ := Option.ne_none_iff_exists'.1 hoff
      obtain ⟨hred, -, hcur, -⟩ := vncrOffset_facts hoff
      obtain ⟨-, hguard⟩ := guardedAccessIsUnchanged s _ dir hel hel2 himpl (fun _ => hred)
      have hmin : (minEL (sysRegName s.cfg e)).num ≤ 1 := vncrOffset_minEL hoff hset
      exact ⟨hguard hnv2 hset hset1 hcur (.inr hel3), by simp [reachesEL3Trap, num_of_EL1 hel, hmin]⟩
  obtain ⟨hclass, hreach⟩ := hreach
  have hrun := exec_of_baseGate hi hclass
    (baseGate_of_el3Trap himpl (by simp [hel]) hreach hel3 e rt)
  obtain ⟨hl, hesr, helr, -, hregs⟩ := takeException_entersEL3
    { target := .EL3, syndrome := .value 0x18#6 (issSysreg e rt dir), far := .keep, ret := s.pc }
    hwf rfl rfl
  refine ⟨_, hrun, hl, ?_, helr, hregs, keepsGprs_takeException _ s, keepsMemory_takeException _ s⟩
  have hsyn : (trapToEL3 (issSysreg e rt dir) s).reg ⟨.ESR, .EL3, 0⟩ =
      esrValue 0x18#6 (issSysreg e rt dir) := hesr
  rw [hsyn, esrValue_extract_iss, issOfWord_encode hi]

/-- A trap of the oracle whose target is EL2 is a trap to EL2. -/
theorem takeOtherTrap_eq_trapToEL2 {o : OtherTrap} (h : o.target = .EL2) (iss : BitVec 25)
    (s : State) : takeOtherTrap o iss s = trapToEL2 o.ec (o.iss.getD iss) s := by
  rw [takeOtherTrap, trapToEL2, h]

/-- Settles O23: the other trap keeps the transformation off, and the gate takes it. -/
theorem otherTrapIsTakenInsteadOfTransformation :
    Obligations.OtherTrapIsTakenInsteadOfTransformation := by
  rintro s i e rt dir o off hi ⟨-, hwf, -⟩ hel hel2 hnv2 hset hset1 hoff himpl hel3 hundef hother htgt
  obtain ⟨hred, -, hcur, -⟩ := vncrOffset_facts hoff
  obtain ⟨-, hguard⟩ := guardedAccessIsUnchanged s _ dir hel hel2 himpl (fun _ => hred)
  have hclass := hguard hnv2 hset hset1 hcur (.inl (by rw [hother]; rfl))
  have hrun := exec_of_baseGate hi hclass (baseGate_of_otherTrap himpl hel3 hundef hother e rt)
  rw [takeOtherTrap_eq_trapToEL2 htgt, ← issOfWord_encode hi] at hrun
  exact ⟨_, hrun, trapToEL2_traps _ _ hwf hel⟩

/-! ## UNDEFINED at EL1 -/

/-- An absent register is unallocated where the classifier looks at it, and UNDEFINED elsewhere (R161). -/
theorem classifyRegAccess_of_absent {s : State} {r : RegName} (himpl : implemented s.cfg r = false)
    (dir : Dir) :
    classifyRegAccess s r dir false = .unallocated ∨
      classifyRegAccess s r dir false = .unchanged := by
  by_cases h : s.pstate.el ≠ .EL1 ∨ s.cfg.el2Enabled = false ∨ s.cfg.haveNV = false
  · exact .inr (classifyRegAccess_of_inactive h r dir false)
  · left
    rw [classifyRegAccess, if_neg h, if_neg (not_refused_form (by simp)), if_pos (by simp [himpl])]

theorem exec_of_absent {s : State} {i : Instr} {e : SysEnc} {rt : BitVec 5} {dir : Dir}
    (hi : (i = .mrs e rt ∧ dir = .read) ∨ (i = .msr e rt ∧ dir = .write))
    (himpl : implemented s.cfg (sysRegName s.cfg e) = false) :
    exec i s = .next (undefinedInstr s) := by
  rcases classifyRegAccess_of_absent himpl dir with hc | hc
  · rcases hi with ⟨rfl, rfl⟩ | ⟨rfl, rfl⟩
    · simp only [exec_mrs, execMrs, hc]
    · simp only [exec_msr, execMsr, hc]
  · exact exec_of_baseGate hi hc (baseGate_of_absent himpl e rt dir)

/-- Settles O25: an absent register, and an access the gate finds UNDEFINED, are the Undefined Instruction
exception. -/
theorem registerAccessUndefinedAtEL1 : Obligations.RegisterAccessUndefinedAtEL1 := by
  rintro s i e rt dir hi ⟨-, hwf, -⟩ hel htge hcase
  refine ⟨undefinedInstr s, ?_, undefinedInstr_atEL1 hwf hel htge⟩
  rcases hcase with himpl | ⟨hclass, hel3, hundef⟩
  · exact exec_of_absent hi himpl
  · have hhere : undefinedHere s (sysRegName s.cfg e) dir = true := by
      rcases hundef with hmin | ⟨rfl, hro⟩
      · simp [undefinedHere, num_of_EL1 hel, hmin]
      · simp [undefinedHere, hro]
    exact exec_of_baseGate hi hclass (baseGate_of_undefined hel3 hhere e rt)

theorem baseSysGate_of_absent {s : State} {present : Bool} (h : present = false) (lowest : EL)
    (op : SysOp) (rt : BitVec 5) :
    baseSysGate s present lowest op rt = some (undefinedInstr s) := by
  rw [baseSysGate, if_pos (by simp [h])]

theorem baseSysGate_of_low {s : State} {lowest : EL} (h : s.pstate.el.num < lowest.num)
    (present : Bool) (op : SysOp) (rt : BitVec 5) :
    baseSysGate s present lowest op rt = some (undefinedInstr s) := by
  rw [baseSysGate, if_pos h, ite_self]

/-- An AT operation that no trap claims, and that its level or its feature makes UNDEFINED. -/
theorem exec_at_undefined {s : State} {i : Instr} {op : AtOp} (hop : atOf i = some op)
    (htrap : atTrapped s op = false)
    (h : atPresent s.cfg op = false ∨ s.pstate.el.num < (atLowest op).num) :
    exec i s = .next (undefinedInstr s) := by
  obtain ⟨base, rt, -, -, hrun⟩ := exec_at hop s
  have hgate : baseSysGate s (atPresent s.cfg op) (atLowest op) (sysOpOfWord base) rt =
      some (undefinedInstr s) := by
    rcases h with h | h
    · exact baseSysGate_of_absent h _ _ _
    · exact baseSysGate_of_low h _ _ _
  simp only [hrun, addressTranslation, htrap, hgate, Bool.false_eq_true, if_false]

/-- A TLBI operation likewise; all of them belong to EL2 (R118). -/
theorem exec_tlbi_undefined {s : State} {i : Instr} {n : TlbiNeeds} (hn : tlbiOf i = some n)
    (htrap : tlbiTrapped s (tlbiPresent s.cfg n.range n.os n.nxs) = false)
    (hel : s.pstate.el.num < 2) : exec i s = .next (undefinedInstr s) := by
  obtain ⟨base, rt, -, -, hrun⟩ := exec_tlbi hn s
  simp only [hrun, tlbMaintenance, htrap, Bool.false_eq_true, if_false,
    baseSysGate_of_low (lowest := .EL2) hel]

theorem atTrapped_of_el2_op {s : State} {op : AtOp} (hnv : (effNV s).nv = false)
    (hop : op ∈ [AtOp.S1E2R, .S1E2W, .S12E1R, .S12E1W, .S12E0R, .S12E0W, .S1E2A]) :
    atTrapped s op = false ∧ atLowest op = .EL2 := by
  have hset : hcrAtSet s.cfg op = false ∧ atLowest op = .EL2 := by
    simp only [List.mem_cons, List.not_mem_nil, or_false] at hop
    rcases hop with rfl | rfl | rfl | rfl | rfl | rfl | rfl <;> exact ⟨rfl, rfl⟩
  exact ⟨by simp [atTrapped, hnv, hset.1], hset.2⟩

theorem atTrapped_of_no_ats1a {s : State} {op : AtOp} (hop : op ∈ [AtOp.S1E2A, .S1E1A])
    (h : s.cfg.haveATS1A = false) : atTrapped s op = false ∧ atPresent s.cfg op = false := by
  simp only [List.mem_cons, List.not_mem_nil, or_false] at hop
  rcases hop with rfl | rfl <;> simp [atTrapped, atEL2Only, hcrAtSet, atPresent, h]

theorem atTrapped_of_no_pan2 {s : State} {op : AtOp} (hop : op ∈ [AtOp.S1E1RP, .S1E1WP])
    (h : s.cfg.havePAN2 = false) (hat : effAT s = false) :
    atTrapped s op = false ∧ atPresent s.cfg op = false := by
  simp only [List.mem_cons, List.not_mem_nil, or_false] at hop
  rcases hop with rfl | rfl <;> simp [atTrapped, atEL2Only, atPresent, h, hat]

/-- MRRS and MSRR of a register that is not 128-bit are UNDEFINED (R166). -/
theorem exec_pair_undefined {s : State} {i : Instr} {e : SysEnc} {rt : BitVec 5}
    (hi : i ∈ [Instr.mrrs e rt, .msrr e rt]) (h : isReg128 s.cfg (sysRegName s.cfg e) = false) :
    exec i s = .next (undefinedInstr s) := by
  have hclass (dir : Dir) : classifyRegAccess s (sysRegName s.cfg e) dir true = .unchanged := by
    simp [classifyRegAccess, h]
  simp only [List.mem_cons, List.not_mem_nil, or_false] at hi
  rcases hi with rfl | rfl
  · simp [exec_mrrs, execMrrs, hclass, baseRead128, h]
  · simp [exec_msrr, execMsrr, hclass, baseWrite128, h]

/-- Settles O26: each operation misses its trap and is UNDEFINED by its level or its feature. -/
theorem operationUndefinedAtEL1 : Obligations.OperationUndefinedAtEL1 := by
  rintro s i ⟨-, hwf, -⟩ hel htge hcase
  refine ⟨undefinedInstr s, ?_, undefinedInstr_atEL1 hwf hel htge⟩
  have hlow : s.pstate.el.num < 2 := num_lt_two (.inr hel)
  rcases hcase with ⟨hnv, op, hat, hop⟩ | ⟨hnv, n, hn⟩ | ⟨op, hat, hop, hfeat⟩ |
    ⟨op, hat, hop, hfeat, heff⟩ | ⟨n, hn, hmet⟩ | ⟨⟨imm, rfl⟩, hel3, hno⟩ | ⟨hi, hpauth⟩ |
    ⟨e, rt, hi, h128⟩
  · obtain ⟨htrap, hlowest⟩ := atTrapped_of_el2_op hnv hop
    exact exec_at_undefined hat htrap (.inr (by rw [hlowest]; exact hlow))
  · exact exec_tlbi_undefined hn (by simp [tlbiTrapped, hnv]) hlow
  · obtain ⟨htrap, hpresent⟩ := atTrapped_of_no_ats1a hop hfeat
    exact exec_at_undefined hat htrap (.inl hpresent)
  · obtain ⟨htrap, hpresent⟩ := atTrapped_of_no_pan2 hop hfeat heff
    exact exec_at_undefined hat htrap (.inl hpresent)
  · have hpresent : tlbiPresent s.cfg n.range n.os n.nxs = false :=
      Bool.eq_false_iff.2 (mt (tlbiPresent_iff n s.cfg).1 hmet)
    exact exec_tlbi_undefined hn (by simp [tlbiTrapped, hpresent]) hlow
  · have htrap : smcTrapped s = false := by rcases hno with h | h <;> simp [smcTrapped, h]
    rw [exec_smc_of_not_trapped htrap, baseSmc, if_pos (.inr hel3)]
  · simp only [List.mem_cons, List.not_mem_nil, or_false] at hi
    rcases hi with rfl | rfl
    · simp [exec_eretaa, authenticated, hpauth]
    · simp [exec_eretab, authenticated, hpauth]
  · exact exec_pair_undefined hi h128

/-! ## Exception return -/

theorem eretWith_returns {s : State} (htrap : eretTrapped s = false) (hel : s.pstate.el ≠ .EL0)
    (hother : otherTrap s .eret = none) (kind : EretKind) (addr : Word) :
    eretWith kind addr s = returnTo addr s := by
  simp only [eretWith, htrap, hel, hother, Bool.false_eq_true, if_false]

theorem authenticated_returns {s : State} (hpauth : s.cfg.havePAuth = true)
    (htrap : eretTrapped s = false) (hel : s.pstate.el ≠ .EL0)
    (hother : otherTrap s .eret = none) (kind : EretKind) :
    authenticated kind s = returnTo s.free (s.drawn 1) := by
  rw [authenticated, if_neg (by simp [hpauth]), if_neg (by simp [htrap])]
  exact eretWith_returns (s := s.drawn 1) htrap hel hother kind s.free

/-- An exception return that nothing traps, whichever of the three it is. -/
theorem exec_return {s : State} {i : Instr} (hi : i ∈ [Instr.eret, .eretaa, .eretab])
    (hpauth : i ≠ .eret → s.cfg.havePAuth = true) (hel : s.pstate.el ≠ .EL0)
    (htrap : eretTrapped s = false) (hother : otherTrap s .eret = none) :
    ∃ addr n, exec i s = .next (returnTo addr (s.drawn n)) ∧
      (i = .eret → addr = s.reg ⟨.ELR, elSuffix s.pstate.el, 0⟩) := by
  simp only [List.mem_cons, List.not_mem_nil, or_false] at hi
  rcases hi with rfl | rfl | rfl
  · rw [exec_eret, eretWith_returns htrap hel hother]
    exact ⟨_, 0, rfl, fun _ => rfl⟩
  · rw [exec_eretaa, authenticated_returns (hpauth (by simp)) htrap hel hother]
    exact ⟨_, 1, rfl, fun h => nomatch h⟩
  · rw [exec_eretab, authenticated_returns (hpauth (by simp)) htrap hel hother]
    exact ⟨_, 1, rfl, fun h => nomatch h⟩

/-- Settles O28: a return writes the program counter and process state, legal image or not. -/
theorem exceptionReturnRestores : Obligations.ExceptionReturnRestores := by
  rintro s i v hi hpauth hel htrap hother rfl
  obtain ⟨addr, n, hrun, haddr⟩ := exec_return hi hpauth hel htrap hother
  refine ⟨_, hrun, fun hlegal => ?_, fun hillegal => ?_, haddr, fun r _ => rfl, fun k _ => rfl,
    fun a => rfl, rfl, rfl, rfl, rfl, rfl, rfl, rfl⟩
  · exact returnPState_restores (s := s.drawn n) ((legalReturn_iff s _).2 hlegal)
  · exact returnPState_illegal (s := s.drawn n)
      (Bool.eq_false_iff.2 (mt (legalReturn_iff s _).1 hillegal))

/-! ## A trap and the return from it -/

/-- The bits of an SPSR image that say it is an AArch64 one (R25). -/
theorem image_fixed_bits (p : PState) :
    p.image.getLsbD 4 = false ∧ p.image.getLsbD 1 = false := by
  constructor <;> simp only [PState.image, PState.imageWith, BitVec.getLsbD_append] <;> simp

theorem image_extract_nzcv (p : PState) : p.image.extractLsb' 28 4 = p.nzcv := by
  apply BitVec.eq_of_getLsbD_eq
  intro k hk
  simp only [PState.image, PState.imageWith, BitVec.getLsbD_append, BitVec.getLsbD_extractLsb']
  interval_cases k <;> simp

theorem image_extract_btype (p : PState) : p.image.extractLsb' 10 2 = p.btype := by
  apply BitVec.eq_of_getLsbD_eq
  intro k hk
  simp only [PState.image, PState.imageWith, BitVec.getLsbD_append, BitVec.getLsbD_extractLsb']
  interval_cases k <;> simp

/-- What was saved is what is restored (R25, R26). -/
theorem ofImage_image (p : PState) :
    PState.ofImage p.image p.el (p.image.getLsbD 0) (p.image.getLsbD 20) = p := by
  rw [PState.ofImage, image_extract_nzcv, image_extract_btype, image_getLsbD_pan]
  cases p
  simp only [PState.image, PState.imageWith, BitVec.getLsbD_append]
  simp

/-- An image saved from EL1 is one EL2 can return to (assumption 20). -/
theorem returnPState_of_saved {s : State} {p : PState} (hel : s.pstate.el = .EL2)
    (hp : p.el = .EL1) : returnPState s p.image = p := by
  have hlvl : EL.ofBits (p.image.extractLsb' 2 2) = .EL1 := by
    rw [image_extract_m32, EL.ofBits_bits, hp]
  obtain ⟨h4, h1⟩ := image_fixed_bits p
  have hlegal : legalReturn s p.image = true := by
    simp only [legalReturn, hlvl, h4, h1, hel]
    rfl
  rw [returnPState, if_pos hlegal, hlvl, ← hp, ofImage_image]

/-- An oracle that lists no trap of ERET answers none. -/
theorem otherTrap_eret_none {s : State} (h : ∀ o ∈ s.cfg.otherTraps, o.key ≠ .eret) :
    otherTrap s .eret = none :=
  List.find?_eq_none.2 fun o ho => by simp [otherTrapDue, h o ho]

/-- Settles O29: the entry saves the image and the address, and the return takes both back. -/
theorem returnAfterTrapResumes : Obligations.ReturnAfterTrapResumes := by
  rintro s ec iss ⟨-, hwf, -⟩ hel hel2 hkeys
  obtain ⟨⟨-, helr, hspsr, hel', -⟩, -⟩ := trapToEL2_traps ec iss hwf hel
  have hcfg : (trapToEL2 ec iss s).cfg = s.cfg := takeException_cfg _ s
  have htrap : eretTrapped (trapToEL2 ec iss s) = false := by
    rw [← Bool.not_eq_true, eretTrapped_iff, hel']
    simp
  have hrun := exec_eret (trapToEL2 ec iss s)
  rw [eretWith_returns htrap (by rw [hel']; simp) (otherTrap_eret_none (by rwa [hcfg])), hel'] at hrun
  have hpstate : (returnTo ((trapToEL2 ec iss s).reg ⟨.ELR, .EL2, 0⟩) (trapToEL2 ec iss s)).pstate =
      s.pstate := by
    rw [returnTo, hel']
    exact (congrArg (returnPState _) hspsr).trans (returnPState_of_saved hel' hel)
  refine ⟨_, hrun, helr, hpstate, takeException_gpr _ s, takeException_mem _ s,
    takeException_tlbHeldNV _ s, fun r hr => ?_⟩
  simp only [List.mem_cons, List.not_mem_nil, or_false, not_or] at hr
  obtain ⟨hesr, helr', hspsr'⟩ := hr
  have hl : excTarget .EL2 s.pstate.el = .EL2 := by rw [hel]; rfl
  exact takeException_reg128_other _ s (by rw [hl]; exact hesr) (.inr rfl) (by rw [hl]; exact helr')
    (by rw [hl]; exact hspsr')

end Sys2Proof.Proofs
end

section
/-! PROOFS. Register reads and writes of the base architecture (R10, R26, R30, R31), HCR_EL2 with the pairs it
leaves in a TLB (R35, R44), and the five redirected registers (R148 to R153). -/

namespace Sys2Proof.Proofs

open Sys2Proof Sys2Proof.Machine

/-! ## MRS -/

/-- What an instruction that brings a value to Xt and goes on does, and its frame (R31, R32). -/
theorem setX_advance_frame (s : State) (rt : BitVec 5) (v : Word) :
    Loads rt v s (s.setX rt v).advance ∧ KeepsRegsBut [] s (s.setX rt v).advance ∧
      KeepsMemory s (s.setX rt v).advance ∧ Continues s (s.setX rt v).advance ∧
      (s.setX rt v).advance.events = s.events :=
  ⟨loads_setX s rt v, keepsRegsBut_setX s rt v, keepsMemory_setX s rt v, continues_setX s rt v,
    events_setX s rt v⟩

theorem readReg_storage {r : RegName} (h : regView r = .storage) (s : State) :
    s.readReg r = (s.reg r, s) := by
  simp only [State.readReg, h]

theorem readReg_ID_AA64MMFR4 (s : State) :
    s.readReg ⟨.ID_AA64MMFR4, .EL1, 0⟩ = (s.cfg.idAA64MMFR4, s) := rfl

/-- A read of UAO answers the stored bit in bit 23 (assumption 12). -/
theorem readReg_UAO (s : State) :
    s.readReg ⟨.UAO, .none, 0⟩ = (if s.pstate.uao = true then 1#64 <<< 23 else 0#64, s) := by
  rw [← putBit_zero]; rfl

/-- Settles O30: the four kinds of register are the four views that read without a draw. -/
theorem mrsReadsStorage : Obligations.MrsReadsStorage := by
  intro s e rt r v he hc hacc hv
  have hread : s.readReg r = (v, s) := by
    rcases hv with ⟨hview, rfl⟩ | ⟨rfl, rfl⟩ | ⟨rfl, rfl⟩ | ⟨rfl, rfl⟩
    · exact readReg_storage hview s
    · exact readReg_ID_AA64MMFR4 s
    · exact readReg_PAN s
    · exact readReg_UAO s
  have hrun := exec_mrs_accessible he hc hacc rt
  rw [hread] at hrun
  exact ⟨_, hrun, setX_advance_frame s rt v⟩

theorem classifyRegAccess_UAO {s : State} (hi : implemented s.cfg ⟨.UAO, .none, 0⟩ = true)
    (dir : Dir) (is128 : Bool) :
    classifyRegAccess s ⟨.UAO, .none, 0⟩ dir is128 = .unchanged :=
  classifyRegAccess_of_outside hi (by decide) (by decide) (by decide) (by decide)
    (fun k nv1 => by cases k <;> cases nv1 <;> decide) dir is128

/-- Settles O56: the Effective value is the stored bit or 1, and a read does not go through it. -/
theorem uaoIsOneUnderNV1 : Obligations.UaoIsOneUnderNV1 := by
  refine fun s => ⟨fun hactive => ⟨?_, fun e rt he hacc => ?_⟩, fun hinactive => ?_⟩
  · rw [effUAO, hactive, Bool.or_true]
  · have ⟨himpl, _⟩ := hacc
    have hrun := exec_mrs_accessible he (classifyRegAccess_UAO himpl .read false) hacc rt
    rw [readReg_UAO] at hrun
    obtain ⟨hloads, -, -, ⟨-, hpstate, -⟩, -⟩ := setX_advance_frame s rt
      (if s.pstate.uao = true then 1#64 <<< 23 else 0#64)
    exact ⟨_, hrun, hloads, hpstate⟩
  · rw [effUAO, hinactive, Bool.or_false]

/-! ## MSR -/

/-- An MSR that the classifier leaves to the base architecture, of an accessible register. -/
theorem exec_msr_accessible {s : State} {e : SysEnc} {r : RegName} (he : sysRegName s.cfg e = r)
    (hc : classifyRegAccess s r .write false = .unchanged) (ha : Accessible s r .write)
    (rt : BitVec 5) : exec (.msr e rt) s = .next (s.writeReg r (s.x rt)).advance := by
  simp only [exec_msr, execMsr, he, hc, baseWrite_accessible ha]

theorem writeReg_storage {r : RegName} (h : regView r = .storage) (s : State) (v : Word) :
    s.writeReg r v = s.store64 r v := by
  simp only [State.writeReg, h]

/-- A register stored: what it holds then, and what stays (R30, R31). -/
theorem store64_advance_frame {s : State} (hw : RegStore.wf s.regs = true) (r : RegName) (v : Word) :
    (s.store64 r v).advance.reg r = v ∧
      KeepsRegsBut [storageName r] s (s.store64 r v).advance ∧
      KeepsGprsBut [] s (s.store64 r v).advance ∧ KeepsMemory s (s.store64 r v).advance ∧
      Continues s (s.store64 r v).advance ∧ (s.store64 r v).advance.events = s.events := by
  refine ⟨State.reg_store64_same hw r v, fun q hq => ?_, fun k _ => ?_, fun a => ?_, ?_, ?_⟩
  · exact State.reg128_store64_other s (by simpa using hq) v
  · simp [State.x]
  · simp
  · simp [Continues, KeepsSurroundings]
  · simp

/-- Register 31 reads as zero (R31). -/
theorem x_eq_ite (s : State) (rt : BitVec 5) : s.x rt = if rt = 31#5 then 0#64 else s.x rt := by
  split
  · subst rt
    rfl
  · rfl

/-- Settles O31: a register that is its storage is stored. -/
theorem msrWritesStorage : Obligations.MsrWritesStorage := by
  rintro s e rt ⟨-, hwf, -⟩ hc hacc hview
  have hrun := exec_msr_accessible rfl hc hacc rt
  rw [writeReg_storage hview] at hrun
  rw [← x_eq_ite]
  exact ⟨_, hrun, store64_advance_frame hwf _ _⟩

theorem writeReg_PAN (s : State) (v : Word) :
    s.writeReg ⟨.PAN, .none, 0⟩ v = { s with pstate := { s.pstate with pan := v.getLsbD 22 } } := rfl

theorem writeReg_UAO (s : State) (v : Word) :
    s.writeReg ⟨.UAO, .none, 0⟩ v = { s with pstate := { s.pstate with uao := v.getLsbD 23 } } := rfl

/-- Settles O34: the two names are views of one field of process state. -/
theorem msrWritesProcessStateBit : Obligations.MsrWritesProcessStateBit := by
  rintro s e rt r he hr hc hacc
  have hrun := exec_msr_accessible he hc hacc rt
  rcases hr with rfl | rfl
  · rw [writeReg_PAN] at hrun
    exact ⟨_, hrun, rfl, rfl, fun _ _ => rfl, fun _ _ => rfl, fun _ => rfl, rfl, rfl, rfl, rfl, rfl,
      rfl⟩
  · rw [writeReg_UAO] at hrun
    exact ⟨_, hrun, rfl, rfl, fun _ _ => rfl, fun _ _ => rfl, fun _ => rfl, rfl, rfl, rfl, rfl, rfl,
      rfl⟩

/-! ## MRRS and MSRR of the base architecture -/

theorem exec_mrrs_accessible {s : State} {e : SysEnc}
    (h128 : isReg128 s.cfg (sysRegName s.cfg e) = true)
    (hc : classifyRegAccess s (sysRegName s.cfg e) .read true = .unchanged)
    (ha : Accessible s (sysRegName s.cfg e) .read) (rt : BitVec 5) :
    exec (.mrrs e rt) s = .next (s.setXPair rt (s.reg128 (sysRegName s.cfg e))).advance := by
  rw [exec_mrrs]
  simp only [execMrrs, hc, baseRead128, h128, baseGate_none ha]
  rfl

theorem exec_msrr_accessible {s : State} {e : SysEnc}
    (h128 : isReg128 s.cfg (sysRegName s.cfg e) = true)
    (hc : classifyRegAccess s (sysRegName s.cfg e) .write true = .unchanged)
    (ha : Accessible s (sysRegName s.cfg e) .write) (rt : BitVec 5) :
    exec (.msrr e rt) s = .next (s.setReg128 (sysRegName s.cfg e) (s.xPair rt)).advance := by
  rw [exec_msrr]
  simp only [execMsrr, hc, baseWrite128, h128, baseGate_none ha]
  rfl

/-- The pair of an even register: its lower half is no zero register, its upper half is one for X30 only. -/
theorem pairRegisterOk_spec {rt : BitVec 5} (h : pairRegisterOk rt = true) :
    rt ≠ 31#5 ∧ rt ≠ rt + 1#5 ∧ (rt + 1#5 = 31#5 ↔ rt = 30#5) := by
  revert rt; decide

/-- The value of a pair with X30 has the zero register as its upper half (assumption 26). -/
theorem x_pair_upper {rt : BitVec 5} (h : pairRegisterOk rt = true) (s : State) :
    s.x (rt + 1#5) = if rt = 30#5 then 0#64 else s.x (rt + 1#5) := by
  obtain ⟨-, -, h31⟩ := pairRegisterOk_spec h
  rw [← ite_cond_congr (propext h31), ← x_eq_ite]

/-- What an instruction that brings 128 bits to a pair and goes on does, and its frame (R31, R166). -/
theorem setXPair_advance_frame {rt : BitVec 5} (h : pairRegisterOk rt = true) (s : State)
    (v : DWord) :
    (s.setXPair rt v).advance.x rt = v.extractLsb' 0 64 ∧
      (s.setXPair rt v).advance.x (rt + 1#5) =
        (if rt = 30#5 then 0#64 else v.extractLsb' 64 64) ∧
      KeepsGprsBut [rt, rt + 1#5] s (s.setXPair rt v).advance ∧
      KeepsRegsBut [] s (s.setXPair rt v).advance ∧ KeepsMemory s (s.setXPair rt v).advance ∧
      Continues s (s.setXPair rt v).advance ∧ (s.setXPair rt v).advance.events = s.events := by
  obtain ⟨hne31, hne, h31⟩ := pairRegisterOk_spec h
  refine ⟨?_, ?_, fun k hk => ?_, fun q _ => ?_, fun a => ?_, ?_, ?_⟩
  · rw [State.x_advance, State.setXPair, State.x_setX_other _ hne, State.x_setX_same, if_neg hne31]
  · rw [State.x_advance, State.setXPair, State.x_setX_same]
    simp only [h31]
  · simp only [List.mem_cons, List.not_mem_nil, or_false, not_or] at hk
    rw [State.x_advance, State.setXPair, State.x_setX_other _ hk.2, State.x_setX_other _ hk.1]
  · simp
  · simp
  · simp [Continues, KeepsSurroundings]
  · simp

/-- Settles O32: the pair receives the storage, and the storage the pair. -/
theorem pairAccessMovesBothHalves : Obligations.PairAccessMovesBothHalves := by
  rintro s e rt ⟨-, hwf, -⟩ hpair h128
  refine ⟨fun hc hacc => ?_, fun hc hacc => ?_⟩
  · exact ⟨_, exec_mrrs_accessible h128 hc hacc rt, setXPair_advance_frame hpair s _⟩
  · refine ⟨_, exec_msrr_accessible h128 hc hacc rt, ?_, fun q hq => ?_, fun k _ => rfl, fun a => rfl,
      ⟨rfl, rfl, rfl, rfl, rfl, rfl, rfl, rfl⟩, rfl⟩
    · rw [← x_pair_upper hpair]
      exact State.reg128_setReg128_same hwf _ _
    · exact State.reg128_setReg128_other s (by simpa using hq) _

/-! ## HCR_EL2 -/

theorem mem_holdPair (p : Bool × Bool) (held : List (Bool × Bool)) :
    p ∈ holdPair p held ∧ ∀ q ∈ held, q ∈ holdPair p held := by
  unfold holdPair
  split
  · exact ⟨‹_›, fun q hq => hq⟩
  · exact ⟨List.mem_append_right _ (List.mem_singleton_self p), fun q hq => List.mem_append_left _ hq⟩

/-- A write of HCR_EL2 stores the word and leaves a pair that it changes in `TLBHeldNV` (R35, R44). -/
theorem writeReg_HCR (s : State) (v : Word) :
    ∃ held, s.writeReg ⟨.HCR, .EL2, 0⟩ v =
        { s.setReg ⟨.HCR, .EL2, 0⟩ v with tlbHeldNV := held } ∧
      (∀ p ∈ s.tlbHeldNV, p ∈ held) ∧
      ((effNV (s.setReg ⟨.HCR, .EL2, 0⟩ v)).nv ≠ (effNV s).nv ∨
          (effNV (s.setReg ⟨.HCR, .EL2, 0⟩ v)).nv1 ≠ (effNV s).nv1 →
        ((effNV s).nv, (effNV s).nv1) ∈ held) := by
  have hview : regView ⟨.HCR, .EL2, 0⟩ = .hcr := rfl
  simp only [State.writeReg, hview]
  split
  · rename_i hsame
    exact ⟨s.tlbHeldNV, rfl, fun p hp => hp,
      fun hchange => absurd hsame (by tauto)⟩
  · obtain ⟨hnew, hold⟩ := mem_holdPair ((effNV s).nv, (effNV s).nv1) s.tlbHeldNV
    exact ⟨_, rfl, hold, fun _ => hnew⟩

/-- A word with one bit replaced has its other bits. -/
theorem putBit_getLsbD_other (v : Word) (b : Bool) {n k : Nat} (h : k ≠ n) :
    (putBit v n b).getLsbD k = v.getLsbD k := by
  by_cases hk : k < 64
  · have hone : (1#64 <<< n).getLsbD k = false := by
      simp [BitVec.getLsbD_shiftLeft, BitVec.getLsbD_one]
      omega
    have hbit : ((BitVec.ofBool b).setWidth 64 <<< n).getLsbD k = false := by
      simp [BitVec.getLsbD_shiftLeft, BitVec.getLsbD_setWidth, BitVec.getLsbD_ofBool]
      omega
    rw [putBit, BitVec.getLsbD_or, BitVec.getLsbD_and, BitVec.getLsbD_not, hone, hbit]
    simp [-BitVec.getLsbD_eq_getElem, hk]
  · rw [BitVec.getLsbD_of_ge _ _ (by omega), BitVec.getLsbD_of_ge _ _ (by omega)]

/-- A read of HCR_EL2 answers the stored bits, with bit 43 open where NV1 is RES0 (U5). -/
theorem readReg_HCR (s : State) :
    ∃ v n, s.readReg ⟨.HCR, .EL2, 0⟩ = (v, s.drawn n) ∧
      ∀ k, (k ≠ 43 ∨ s.cfg.e2h0 ≠ 0b1110#4) →
        v.getLsbD k = (s.reg ⟨.HCR, .EL2, 0⟩).getLsbD k := by
  have hview : regView ⟨.HCR, .EL2, 0⟩ = .hcr := rfl
  simp only [State.readReg, hview]
  split
  · rename_i hres0
    rw [nv1Res0, beq_iff_eq] at hres0
    exact ⟨_, 1, rfl, fun k hk => putBit_getLsbD_other _ _ (hk.resolve_right (not_not.2 hres0))⟩
  · exact ⟨_, 0, rfl, fun k _ => rfl⟩

/-- Settles O35: the write stores the word, and the read answers it. -/
theorem hcrReadsBackStoredBits : Obligations.HcrReadsBackStoredBits := by
  rintro s e rt ⟨-, hwf, -⟩ he
  refine ⟨fun hc hacc => ?_, fun hc hacc => ?_⟩
  · have hrun := exec_msr_accessible he hc hacc rt
    obtain ⟨held, hwrite, -, -⟩ := writeReg_HCR s (s.x rt)
    rw [hwrite] at hrun
    refine ⟨_, hrun, State.reg_setReg_same hwf _ _, fun q hq => ?_, fun k _ => rfl, fun a => rfl, rfl,
      rfl, rfl, rfl, rfl, rfl, rfl⟩
    exact State.reg128_setReg_other s (fun h => hq (List.mem_singleton.2 h)) _
  · have hrun := exec_mrs_accessible he hc hacc rt
    obtain ⟨v, n, hread, hbits⟩ := readReg_HCR s
    rw [hread] at hrun
    obtain ⟨⟨hx, hgprs⟩, hregs, hmem, hcont, -⟩ := setX_advance_frame (s.drawn n) rt v
    refine ⟨_, hrun, hgprs, hregs, hmem, hcont, fun h31 k hk => ?_⟩
    rw [hx, if_neg h31]
    exact hbits k hk

/-- The reading of descriptors is that of the current pair or of a held one (R44, 92 D18). -/
theorem regimeReading_el10_fst (s : State) :
    (regimeReading s .el10).1 = nv1Active s ∨
      ∃ p ∈ s.tlbHeldNV, (regimeReading s .el10).1 = (p.1 && p.2) := by
  simp only [regimeReading, descriptorReading]
  split
  · exact .inl rfl
  · rename_i p ps hused
    rw [List.getD_eq_getElem _ _ (Nat.mod_lt _ (by simp))]
    have hmem := List.getElem_mem
      (l := nv1Active s :: (p :: ps).map (fun q => q.1 && q.2))
      (Nat.mod_lt s.free.toNat (by simp))
    rcases List.mem_cons.1 hmem with h | h
    · exact .inl h
    · obtain ⟨q, hq, hqr⟩ := List.mem_map.1 h
      exact .inr ⟨q, (mem_usableHeldNV (hused ▸ hq)).1, hqr.symm⟩

theorem usableHeldNV_of_inactive {s : State}
    (h : s.cfg.haveNV = false ∨ s.cfg.el2Enabled = false) : usableHeldNV s = [] := by
  rcases h with h | h <;> simp [usableHeldNV, h]

theorem nv1Active_of_inactive {s : State} (h : s.cfg.haveNV = false ∨ s.cfg.el2Enabled = false) :
    nv1Active s = false := by
  simp [nv1Active, effNV_of_inactive h]

/-- Settles O36: the write holds the pair it changes, and a translation uses the current pair or a held
one. -/
theorem heldPairsDecideDescriptorReading : Obligations.HeldPairsDecideDescriptorReading := by
  intro s e rt
  refine ⟨fun he hc hacc => ?_, regimeReading_el10_fst s, regimeReading_el10_of_nil, fun h => ?_, rfl,
    rfl⟩
  · have hrun := exec_msr_accessible he hc hacc rt
    obtain ⟨held, hwrite, hkeep, hnew⟩ := writeReg_HCR s (s.x rt)
    rw [hwrite] at hrun
    exact ⟨_, hrun, hkeep, hnew⟩
  · simp only [regimeReading, descriptorReading, usableHeldNV_of_inactive h, nv1Active_of_inactive h]

/-! ## Aliases -/

/-- A register written is read back by every name of its storage (R30). -/
theorem reg_setReg_alias {s : State} (hw : RegStore.wf s.regs = true) {r q : RegName}
    (h : storageName q = storageName r) (v : Word) : (s.setReg r v).reg q = v := by
  have hsame : (s.setReg r v).reg q = (s.setReg r v).reg r := by
    simp only [State.reg, State.reg128, h]
  rw [hsame, State.reg_setReg_same hw]

theorem storageName_EL12 {b : RegBase} (h : b ≠ .other) (n : BitVec 16) :
    storageName ⟨b, .EL12, n⟩ = ⟨b, .EL1, n⟩ := if_neg h

/-- Settles O37: the `_EL12` or `_EL02` name has the storage of the register. -/
theorem aliasSharesStorage : Obligations.AliasSharesStorage := by
  rintro s b n v ⟨-, hwf, -⟩ hb
  have h12 : storageName ⟨b, .EL12, n⟩ = storageName ⟨b, .EL1, n⟩ := storageName_EL12 hb n
  have h02 : storageName ⟨b, .EL02, n⟩ = storageName ⟨b, .EL0, n⟩ := rfl
  exact ⟨reg_setReg_alias hwf h12.symm v, reg_setReg_alias hwf h12 v,
    reg_setReg_alias hwf h02.symm v, reg_setReg_alias hwf h02 v⟩

/-! ## The five redirected registers -/

theorem sysRegName_of_nil {c : Config} (h : c.regNames = []) (e : SysEnc) :
    sysRegName c e = defaultRegName e := by
  rw [sysRegName, h]; rfl

/-- The default names of the five encodings of R77, and where R148 sends them. -/
theorem redirectTarget_defaultRegName :
    ∀ p ∈ [((⟨1#1, 4#3, 4#4, 0#4, 0#3⟩ : SysEnc), (⟨.SPSR, .EL1, 0⟩ : RegName)),
        (⟨1#1, 4#3, 4#4, 0#4, 1#3⟩, ⟨.ELR, .EL1, 0⟩), (⟨1#1, 4#3, 5#4, 2#4, 0#3⟩, ⟨.ESR, .EL1, 0⟩),
        (⟨1#1, 4#3, 6#4, 0#4, 0#3⟩, ⟨.FAR, .EL1, 0⟩), (⟨1#1, 4#3, 5#4, 6#4, 0#3⟩, ⟨.TFSR, .EL1, 0⟩)],
      redirectTarget (defaultRegName p.1) = some p.2 ∧ storageName p.2 = p.2 := by
  decide +kernel

theorem classifyRegAccess_unallocated {s : State} {r : RegName} (hel : s.pstate.el = .EL1)
    (hnv : (effNV s).nv = true) (himpl : implemented s.cfg r = false) (dir : Dir) :
    classifyRegAccess s r dir false = .unallocated := by
  rw [classifyRegAccess,
    if_neg (not_inactive hel (effNV_el2Enabled (.inl hnv)) (effNV_haveNV (.inl hnv))),
    if_neg (not_refused_form (by simp)), if_pos (by simp [himpl])]

/-- Settles O38: the classifier redirects, and the EL1 register is read or stored. -/
theorem fiveRegistersAreRedirected : Obligations.FiveRegistersAreRedirected := by
  intro s e rt r' hmem hnames hel hel2 hnv hnv2
  obtain ⟨hred, hstore⟩ := redirectTarget_defaultRegName _ hmem
  rw [← sysRegName_of_nil hnames] at hred
  refine ⟨fun himpl => ?_, fun himpl dir => classifyRegAccess_unallocated hel hnv himpl dir⟩
  have hclass (dir : Dir) : classifyRegAccess s (sysRegName s.cfg e) dir false = .redirect r' :=
    classifyRegAccess_of_redirect hel hnv2 himpl (by simp) hred
  have hread : exec (.mrs e rt) s = .next (s.setX rt (s.reg r')).advance := by
    simp only [exec_mrs, execMrs, hclass]
  have hwrite : exec (.msr e rt) s = .next (s.store64 r' (s.x rt)).advance := by
    simp only [exec_msr, execMsr, hclass]
  refine ⟨⟨_, hread, setX_advance_frame s rt _⟩, ?_⟩
  rintro ⟨-, hwf, -⟩
  have hframe := store64_advance_frame hwf r' (s.x rt)
  have hlist : [storageName r'] = [r'] := congrArg (fun q => [q]) hstore
  rw [hlist] at hframe
  exact ⟨_, hwrite, hframe⟩

end Sys2Proof.Proofs
end

section
/-! PROOFS. Transformed accesses that complete (R52 to R61, R155 to R168, R267): the bytes of the slot that
each of the four forms moves, what stays, and what the other units see. -/

namespace Sys2Proof.Proofs

open Sys2Proof Sys2Proof.Machine

/-! ## The bytes of a slot -/

/-- Byte k of a number cut to `w` bits. -/
theorem extract_byte_ofNat {w k : Nat} (hk : 8 * k + 8 ≤ w) (n : Nat) :
    (BitVec.ofNat w n).extractLsb' (8 * k) 8 = BitVec.ofNat 8 (n / 256 ^ k) := by
  have h256 : 256 ^ k = 2 ^ (8 * k) := by rw [Nat.pow_mul]
  apply BitVec.eq_of_getLsbD_eq
  intro j hj
  rw [BitVec.getLsbD_extractLsb', BitVec.getLsbD_ofNat, BitVec.getLsbD_ofNat, h256,
    Nat.testBit_div_two_pow, Nat.add_comm j]
  simp [hj, show 8 * k + j < w by omega]

/-- A part of a part of a word. -/
theorem extract_of_extract {w a m b n : Nat} (v : BitVec w) (h : b + n ≤ m) :
    (v.extractLsb' a m).extractLsb' b n = v.extractLsb' (a + b) n := by
  apply BitVec.eq_of_getLsbD_eq
  intro j hj
  simp only [BitVec.getLsbD_extractLsb', hj, show b + j < m by omega, decide_true, Bool.true_and,
    Nat.add_assoc]

theorem extract_low_of_append (hi lo : Word) {b n : Nat} (h : b + n ≤ 64) :
    (hi ++ lo).extractLsb' b n = lo.extractLsb' b n := by
  apply BitVec.eq_of_getLsbD_eq
  intro j hj
  simp only [BitVec.getLsbD_extractLsb', BitVec.getLsbD_append, show b + j < 64 by omega, if_true]

theorem extract_high_of_append (hi lo : Word) (b n : Nat) :
    (hi ++ lo).extractLsb' (64 + b) n = hi.extractLsb' b n := by
  apply BitVec.eq_of_getLsbD_eq
  intro j hj
  simp only [BitVec.getLsbD_extractLsb', BitVec.getLsbD_append, show ¬64 + b + j < 64 by omega,
    if_false, show 64 + b + j - 64 = b + j by omega]

theorem slotByte_lt (s : State) {size k : Nat} (h : k < size) : slotByte s size k < size := by
  unfold slotByte
  split <;> omega

/-- The number that a slot holds in the byte order of SCTLR_EL2.EE (R55). -/
def slotNat (s : State) (pa size : Nat) : Nat :=
  natOfBytes (vncrBigEndian s) (s.mem.readBytes pa size)

theorem slotNat_byte (s : State) (pa : Nat) {size k : Nat} (hk : k < size) :
    BitVec.ofNat 8 (slotNat s pa size / 256 ^ k) = s.mem.read (pa + slotByte s size k) := by
  have hlen := Memory.length_readBytes s.mem pa size
  rw [slotNat, natOfBytes_byte _ _ _ (by omega), Memory.getElem_readBytes, hlen]
  rfl

/-- Memory with a number in a slot, in that byte order. -/
def storeSlot (s : State) (pa size v : Nat) : Memory :=
  s.mem.writeBytes pa (bytesOfNat (vncrBigEndian s) size v)

theorem storeSlot_byte {s : State} (hw : s.mem.wf = true) (pa v : Nat) {size k : Nat}
    (hk : k < size) :
    (storeSlot s pa size v).read (pa + slotByte s size k) = BitVec.ofNat 8 (v / 256 ^ k) := by
  have hlt : slotByte s size k < (bytesOfNat (vncrBigEndian s) size v).length := by
    rw [length_bytesOfNat]
    exact slotByte_lt s hk
  rw [storeSlot, Memory.read_writeBytes_same _ hw hlt, getElem_bytesOfNat]
  congr 3
  unfold slotByte
  split <;> omega

theorem storeSlot_other (s : State) {pa size v b : Nat} (hb : ¬(pa ≤ b ∧ b < pa + size)) :
    (storeSlot s pa size v).read b = s.mem.read b :=
  Memory.read_writeBytes_other _ _ (by rwa [length_bytesOfNat])

/-- What is stored is what is loaded (R267). -/
theorem slotNat_storeSlot {s : State} (hw : s.mem.wf = true) (pa size v : Nat)
    (hv : v < 256 ^ size) :
    slotNat { s with mem := storeSlot s pa size v } pa size = v := by
  have hback : (storeSlot s pa size v).readBytes pa size = bytesOfNat (vncrBigEndian s) size v := by
    have h := Memory.readBytes_writeBytes (bytesOfNat (vncrBigEndian s) size v) hw pa
    rwa [length_bytesOfNat] at h
  have hslot : slotNat { s with mem := storeSlot s pa size v } pa size =
      natOfBytes (vncrBigEndian s) ((storeSlot s pa size v).readBytes pa size) := rfl
  rw [hslot, hback, natOfBytes_bytesOfNat _ _ _ hv]

/-! ## The state after each form -/

/-- What a completed access does besides moving bytes. -/
theorem drawn_record (s : State) (n : Nat) (es : List Event) :
    (s.drawn n).record es = observed s (s.events ++ es) (s.draw + n) := rfl

/-- A load of 8 bytes to Xt (R158). -/
theorem loadSlot_frame (s : State) (rt : BitVec 5) (pa : Nat) (es : List Event) (n : Nat) :
    (∀ k, k < 8 → rt ≠ 31#5 →
        (((observed s es n).setX rt (BitVec.ofNat 64 (slotNat s pa 8))).advance.x rt).extractLsb'
          (8 * k) 8 = s.mem.read (pa + slotByte s 8 k)) ∧
      KeepsGprsBut [rt] s
        ((observed s es n).setX rt (BitVec.ofNat 64 (slotNat s pa 8))).advance ∧
      KeepsRegsBut [] s ((observed s es n).setX rt (BitVec.ofNat 64 (slotNat s pa 8))).advance ∧
      KeepsMemory s ((observed s es n).setX rt (BitVec.ofNat 64 (slotNat s pa 8))).advance ∧
      Continues s ((observed s es n).setX rt (BitVec.ofNat 64 (slotNat s pa 8))).advance := by
  obtain ⟨⟨hx, hgprs⟩, hregs, hmem, hcont, -⟩ :=
    setX_advance_frame (observed s es n) rt (BitVec.ofNat 64 (slotNat s pa 8))
  refine ⟨fun k hk h31 => ?_, hgprs, hregs, hmem, hcont⟩
  rw [hx, if_neg h31, extract_byte_ofNat (by omega), slotNat_byte s pa hk]

/-- A load of 16 bytes to the pair (R166). -/
theorem loadPairSlot_frame (s : State) {rt : BitVec 5} (hrt : pairRegisterOk rt = true) (pa : Nat)
    (es : List Event) (n : Nat) :
    (∀ k, k < 8 →
        (((observed s es n).setXPair rt (BitVec.ofNat 128 (slotNat s pa 16))).advance.x
          rt).extractLsb' (8 * k) 8 = s.mem.read (pa + slotByte s 16 k)) ∧
      (∀ k, k < 8 → rt ≠ 30#5 →
        (((observed s es n).setXPair rt (BitVec.ofNat 128 (slotNat s pa 16))).advance.x
          (rt + 1#5)).extractLsb' (8 * k) 8 = s.mem.read (pa + slotByte s 16 (k + 8))) ∧
      KeepsGprsBut [rt, rt + 1#5] s
        ((observed s es n).setXPair rt (BitVec.ofNat 128 (slotNat s pa 16))).advance ∧
      KeepsRegsBut [] s
        ((observed s es n).setXPair rt (BitVec.ofNat 128 (slotNat s pa 16))).advance ∧
      KeepsMemory s
        ((observed s es n).setXPair rt (BitVec.ofNat 128 (slotNat s pa 16))).advance ∧
      Continues s
        ((observed s es n).setXPair rt (BitVec.ofNat 128 (slotNat s pa 16))).advance := by
  obtain ⟨hlow, hhigh, hgprs, hregs, hmem, hcont, -⟩ :=
    setXPair_advance_frame hrt (observed s es n) (BitVec.ofNat 128 (slotNat s pa 16))
  refine ⟨fun k hk => ?_, fun k hk h30 => ?_, hgprs, hregs, hmem, hcont⟩
  · rw [hlow, extract_of_extract _ (by omega), Nat.zero_add, extract_byte_ofNat (by omega),
      slotNat_byte s pa (by omega)]
  · rw [hhigh, if_neg h30, extract_of_extract _ (by omega), show 64 + 8 * k = 8 * (k + 8) by omega,
      extract_byte_ofNat (by omega), slotNat_byte s pa (by omega)]

/-- The state after a store to a slot: only memory changes, and only in the slot (R159, R166). -/
def slotStored (s : State) (pa size v : Nat) (es : List Event) (n : Nat) : State :=
  State.advance { observed s es n with mem := storeSlot s pa size v }

theorem slotStored_frame (s : State) (pa size v : Nat) (es : List Event) (n : Nat) :
    KeepsMemoryBut pa size s (slotStored s pa size v es n) ∧
      KeepsRegsBut [] s (slotStored s pa size v es n) ∧
      KeepsGprsBut [] s (slotStored s pa size v es n) ∧
      Continues s (slotStored s pa size v es n) :=
  ⟨fun _ hb => storeSlot_other s hb, fun _ _ => rfl, fun _ _ => rfl, rfl, rfl, rfl, rfl, rfl, rfl, rfl,
    rfl⟩

/-- The bytes of Xt in the slot. -/
theorem slotStored_bytes {s : State} (hw : s.mem.wf = true) (x : Word) (pa : Nat) (es : List Event)
    (n : Nat) {k : Nat} (hk : k < 8) :
    (slotStored s pa 8 x.toNat es n).mem.read (pa + slotByte s 8 k) = x.extractLsb' (8 * k) 8 := by
  rw [extract_byte]
  exact storeSlot_byte hw pa _ hk

/-- The bytes of the pair in the slot, Xt in the lower half. -/
theorem slotStored_pair_bytes {s : State} (hw : s.mem.wf = true) (rt : BitVec 5) (pa : Nat)
    (es : List Event) (n : Nat) {k : Nat} (hk : k < 8) :
    (slotStored s pa 16 (s.xPair rt).toNat es n).mem.read (pa + slotByte s 16 k) =
        (s.x rt).extractLsb' (8 * k) 8 ∧
      (slotStored s pa 16 (s.xPair rt).toNat es n).mem.read (pa + slotByte s 16 (k + 8)) =
        (s.x (rt + 1#5)).extractLsb' (8 * k) 8 := by
  have hbyte {j : Nat} (hj : j < 16) :
      (slotStored s pa 16 (s.xPair rt).toNat es n).mem.read (pa + slotByte s 16 j) =
        (s.xPair rt).extractLsb' (8 * j) 8 := by
    rw [extract_byte]
    exact storeSlot_byte hw pa _ hj
  rw [hbyte (by omega), hbyte (by omega), State.xPair, extract_low_of_append _ _ (by omega),
    show 8 * (k + 8) = 64 + 8 * k by omega, extract_high_of_append]
  exact ⟨rfl, rfl⟩

/-! ## The four forms -/

section Forms
variable {s : State} {e : SysEnc} {off : BitVec 12} {pa n : Nat} {wb : Bool}

theorem vncrRead_of_completes {size : Nat}
    (h : vncrAccess s off size .read = .completes pa wb (s.drawn n)) :
    vncrRead s off size = .value (slotNat s pa size)
      (observed s (s.events ++ vncrEvents s off size .read wb) (s.draw + n)) := by
  simp only [vncrRead, h, drawn_record, slotNat]

theorem vncrWrite_of_completes {size : Nat}
    (h : vncrAccess s off size .write = .completes pa wb (s.drawn n)) (v : Nat) :
    vncrWrite s off size v = .done { observed s (s.events ++ vncrEvents s off size .write wb)
      (s.draw + n) with mem := storeSlot s pa size v } := by
  simp only [vncrWrite, h, drawn_record, storeSlot]

theorem exec_mrs_completes
    (hc : classifyRegAccess s (sysRegName s.cfg e) .read false = .transform off)
    (h : vncrAccess s off 8 .read = .completes pa wb (s.drawn n)) (rt : BitVec 5) :
    exec (.mrs e rt) s = .next ((observed s (s.events ++ vncrEvents s off 8 .read wb)
      (s.draw + n)).setX rt (BitVec.ofNat 64 (slotNat s pa 8))).advance := by
  simp only [exec_mrs, execMrs, hc, vncrRead_of_completes h]

theorem exec_msr_completes
    (hc : classifyRegAccess s (sysRegName s.cfg e) .write false = .transform off)
    (h : vncrAccess s off 8 .write = .completes pa wb (s.drawn n)) (rt : BitVec 5) :
    exec (.msr e rt) s = .next (slotStored s pa 8 (s.x rt).toNat
      (s.events ++ vncrEvents s off 8 .write wb) (s.draw + n)) := by
  simp only [exec_msr, execMsr, hc, vncrWrite_of_completes h, slotStored]

theorem exec_mrrs_completes
    (hc : classifyRegAccess s (sysRegName s.cfg e) .read true = .transform off)
    (h : vncrAccess s off 16 .read = .completes pa wb (s.drawn n)) (rt : BitVec 5) :
    exec (.mrrs e rt) s = .next ((observed s (s.events ++ vncrEvents s off 16 .read wb)
      (s.draw + n)).setXPair rt (BitVec.ofNat 128 (slotNat s pa 16))).advance := by
  simp only [exec_mrrs, execMrrs, hc, vncrRead_of_completes h]

theorem exec_msrr_completes
    (hc : classifyRegAccess s (sysRegName s.cfg e) .write true = .transform off)
    (h : vncrAccess s off 16 .write = .completes pa wb (s.drawn n)) (rt : BitVec 5) :
    exec (.msrr e rt) s = .next (slotStored s pa 16 (s.xPair rt).toNat
      (s.events ++ vncrEvents s off 16 .write wb) (s.draw + n)) := by
  simp only [exec_msrr, execMsrr, hc, vncrWrite_of_completes h, slotStored]

end Forms

/-- Settles O41: the access completes and its number goes to Xt. -/
theorem transformedReadLoadsSlot : Obligations.TransformedReadLoadsSlot := by
  intro s e rt off pa wb hc hacc
  obtain ⟨n, hn⟩ := vncrAccess_completes hacc
  exact ⟨_, exec_mrs_completes hc hn rt, loadSlot_frame s rt pa _ _⟩

/-- Settles O42: the access completes and Xt goes to the slot. -/
theorem transformedWriteStoresSlot : Obligations.TransformedWriteStoresSlot := by
  rintro s e rt off pa wb ⟨hmem, -⟩ hc hacc
  obtain ⟨n, hn⟩ := vncrAccess_completes hacc
  exact ⟨_, exec_msr_completes hc hn rt, fun k hk => slotStored_bytes hmem (s.x rt) pa _ _ hk,
    slotStored_frame s pa 8 _ _ _⟩

/-- Settles O43: the access completes and its number goes to the pair. -/
theorem transformedPairReadLoadsSlot : Obligations.TransformedPairReadLoadsSlot := by
  intro s e rt off pa wb hrt hc hacc
  obtain ⟨n, hn⟩ := vncrAccess_completes hacc
  exact ⟨_, exec_mrrs_completes hc hn rt, loadPairSlot_frame s hrt pa _ _⟩

/-- Settles O44: the access completes and the pair goes to the slot. -/
theorem transformedPairWriteStoresSlot : Obligations.TransformedPairWriteStoresSlot := by
  rintro s e rt off pa wb ⟨hmem, -⟩ hrt hc hacc
  obtain ⟨n, hn⟩ := vncrAccess_completes hacc
  refine ⟨_, exec_msrr_completes hc hn rt, fun k hk => ?_, slotStored_frame s pa 16 _ _ _⟩
  rw [← x_pair_upper hrt]
  exact slotStored_pair_bytes hmem rt pa _ _ hk

/-! ## A guest's own page and its two registers (R168) -/

/-- VNCR_EL2 and HCR_EL2 have one slot in both columns and belong to `NVTrapSet`. -/
theorem vncrOffset_guest_page (k : Row298) (nv1 : Bool) :
    vncrOffset k ⟨.VNCR, .EL2, 0⟩ nv1 = some 0x0B0#12 ∧
      vncrOffset k ⟨.HCR, .EL2, 0⟩ nv1 = some 0x078#12 := by
  cases k <;> cases nv1 <;> decide +kernel

/-- Settles O45: the classifier transforms the access, and the store to the slot writes no register. -/
theorem guestWriteMovesNoPage : Obligations.GuestWriteMovesNoPage := by
  intro s e rt r slot he hr hel hel2 hnv2 himpl hguards
  have hrow : vncrOffset s.cfg.row298 r (effNV s).nv1 = some slot ∧ nvTrapSet r = true := by
    obtain ⟨hvncr, hhcr⟩ := vncrOffset_guest_page s.cfg.row298 (effNV s).nv1
    rcases hr with ⟨rfl, rfl⟩ | ⟨rfl, rfl⟩
    · exact ⟨hvncr, by decide⟩
    · exact ⟨hhcr, by decide⟩
  obtain ⟨hoff, hset⟩ := hrow
  have hclass (dir : Dir) : classifyRegAccess s r dir false = .transform slot := by
    obtain ⟨hundef, hel3⟩ := hguards dir
    exact classifyRegAccess_transform hel hnv2 himpl (by simp) hoff (fun _ => hundef) (fun _ => hel3)
      (fun h => by simp [hset] at h)
  refine ⟨hclass, fun pa wb hacc => ?_⟩
  obtain ⟨n, hn⟩ := vncrAccess_completes hacc
  exact ⟨_, exec_msr_completes (by rw [he]; exact hclass .write) hn rt, rfl,
    effNV_congr rfl rfl, fun _ => rfl⟩

/-! ## A write read back (R267) -/

section Congr
variable {s t : State} (hc : t.cfg = s.cfg) (hr : t.regs = s.regs) (hp : t.pstate = s.pstate)
  (hs : t.sec = s.sec)
include hc hr hp

theorem nv1TrapFires_congr (r : RegName) : nv1TrapFires t r = nv1TrapFires s r := by
  rw [nv1TrapFires, nv1TrapFires, hc, hp, effNV_congr hc hr]

theorem transformOffset_congr (r : RegName) : transformOffset t r = transformOffset s r := by
  rw [transformOffset, transformOffset, nv2Active, nv2Active, hc, hp, effNV_congr hc hr]

theorem otherTrap_congr (k : TrapKey) : otherTrap t k = otherTrap s k := by
  have hdue : otherTrapDue t k = otherTrapDue s k := by
    funext o
    simp only [otherTrapDue, hc, hp, reg_congr hr]
  rw [otherTrap, otherTrap, hc, hdue]

include hs

theorem nvTrapFires_congr (r : RegName) (dir : Dir) : nvTrapFires t r dir = nvTrapFires s r dir := by
  rw [nvTrapFires, nvTrapFires, undefAtEL2, undefAtEL2, el3TrapHigher, el3TrapHigher, hc, hp, hs,
    effNV_congr hc hr]

theorem classifyTail_congr (r : RegName) (dir : Dir) (b : Bool) :
    classifyTail t r dir b = classifyTail s r dir b := by
  have hon : otherTrapOn t r dir = otherTrapOn s r dir := by
    rw [otherTrapOn, otherTrapOn, otherTrap_congr hc hr hp, el3TrapHigher, el3TrapHigher, hc]
  rw [classifyTail, classifyTail, transformOffset_congr hc hr hp, nvTrapFires_congr hc hr hp hs,
    nv1TrapFires_congr hc hr hp, hon]

/-- The classifier depends on the implementation, the registers, process state and the Security state. -/
theorem classifyRegAccess_congr (r : RegName) (dir : Dir) (b : Bool) :
    classifyRegAccess t r dir b = classifyRegAccess s r dir b := by
  rw [classifyRegAccess, classifyRegAccess, classifyTail_congr hc hr hp hs, effNV_congr hc hr, hc, hp]

end Congr

theorem accessCompletes_slotStored {s : State} {off : BitVec 12} {size pa : Nat} {dir : Dir}
    {wb : Bool} (h : AccessCompletes s off size dir pa wb) (pa' size' v : Nat) (es : List Event)
    (n : Nat) : AccessCompletes (slotStored s pa' size' v es n) off size dir pa wb := h

/-- Settles O46: the load after the store finds the bytes of the store. -/
theorem transformedWriteReadsBack : Obligations.TransformedWriteReadsBack := by
  rintro s t e rt rt' off pa wb ⟨hmem, -⟩ hcw hcr haw har hrun
  obtain ⟨n, hn⟩ := vncrAccess_completes haw
  rw [exec_msr_completes hcw hn rt] at hrun
  generalize s.events ++ vncrEvents s off 8 .write wb = es at hrun
  cases hrun
  have hclass : classifyRegAccess (slotStored s pa 8 (s.x rt).toNat es (s.draw + n))
      (sysRegName s.cfg e) .read false = .transform off :=
    (classifyRegAccess_congr rfl rfl rfl rfl _ .read false).trans hcr
  obtain ⟨m, hm⟩ := vncrAccess_completes
    (accessCompletes_slotStored har pa 8 (s.x rt).toNat es (s.draw + n))
  have hback : slotNat (slotStored s pa 8 (s.x rt).toNat es (s.draw + n)) pa 8 = (s.x rt).toNat :=
    slotNat_storeSlot hmem pa 8 _ (s.x rt).isLt
  have hload := exec_mrs_completes (s := slotStored s pa 8 (s.x rt).toNat es (s.draw + n)) (e := e)
    hclass hm rt'
  rw [hback, BitVec.ofNat_toNat, BitVec.setWidth_eq] at hload
  exact ⟨_, hload, loads_setX (observed (slotStored s pa 8 (s.x rt).toNat es (s.draw + n)) _ _) rt' _⟩

/-! ## What the other units see -/

/-- A completed access of any form adds its events, moves the slot and goes on. -/
theorem exec_of_completes {s : State} {i : Instr} {off : BitVec 12} {size : Nat} {dir : Dir}
    {pa n : Nat} {wb : Bool} (hi : TransformsTo s i off size dir)
    (h : vncrAccess s off size dir = .completes pa wb (s.drawn n)) :
    ∃ t, exec i s = .next t ∧ t.events = s.events ++ vncrEvents s off size dir wb ∧
      (s.mem.wf = true → wellFormed i = true → MovesSlot i pa s t) ∧ KeepsRegsBut [] s t ∧
      Continues s t := by
  rcases hi with ⟨e, rt, rfl, rfl, rfl, hc⟩ | ⟨e, rt, rfl, rfl, rfl, hc⟩ |
    ⟨e, rt, rfl, rfl, rfl, hc⟩ | ⟨e, rt, rfl, rfl, rfl, hc⟩
  · obtain ⟨hbytes, hgprs, hregs, hmem, hcont⟩ := loadSlot_frame s rt pa
      (s.events ++ vncrEvents s off 8 .read wb) (s.draw + n)
    refine ⟨_, exec_mrs_completes hc h rt, by simp [observed], fun _ _ => ?_, hregs, hcont⟩
    refine ⟨fun _ _ heq => ?_, nofun, nofun, nofun⟩
    cases heq
    exact ⟨hbytes, hgprs, hmem⟩
  · obtain ⟨hmem, hregs, hgprs, hcont⟩ := slotStored_frame s pa 8 (s.x rt).toNat
      (s.events ++ vncrEvents s off 8 .write wb) (s.draw + n)
    refine ⟨_, exec_msr_completes hc h rt, rfl, fun hwf _ => ?_, hregs, hcont⟩
    refine ⟨nofun, fun _ _ heq => ?_, nofun, nofun⟩
    cases heq
    exact ⟨fun k hk => slotStored_bytes hwf (s.x rt) pa _ _ hk, hgprs, hmem⟩
  · refine ⟨_, exec_mrrs_completes hc h rt, by simp [observed], fun _ hok => ?_, fun r _ => ?_, ?_⟩
    · obtain ⟨hlow, hhigh, hgprs, -, hmem, -⟩ := loadPairSlot_frame s hok pa
        (s.events ++ vncrEvents s off 16 .read wb) (s.draw + n)
      refine ⟨nofun, nofun, fun _ _ heq => ?_, nofun⟩
      cases heq
      exact ⟨hlow, hhigh, hgprs, hmem⟩
    · rw [State.reg128_advance, State.reg128_setXPair]
      rfl
    · simp [Continues, KeepsSurroundings, observed]
  · obtain ⟨hmem, hregs, hgprs, hcont⟩ := slotStored_frame s pa 16 (s.xPair rt).toNat
      (s.events ++ vncrEvents s off 16 .write wb) (s.draw + n)
    refine ⟨_, exec_msrr_completes hc h rt, rfl, fun hwf hok => ?_, hregs, hcont⟩
    refine ⟨nofun, nofun, nofun, fun _ _ heq => ?_⟩
    cases heq
    refine ⟨fun k hk => ?_, hgprs, hmem⟩
    rw [← x_pair_upper hok]
    exact slotStored_pair_bytes hwf rt pa _ _ hk

/-- The parts of an access (R57, R61), as EL2 accesses without Acquire or Release semantics (R53, R59). -/
theorem accessParts_events (s : State) (va : Word) (size : Nat) (wb : Bool) (dir : Dir) :
    (accessParts s va size wb).map
        (fun p => Event.access p.1 p.2 dir .EL2 (el2Regime s) false) =
      if size = 16 ∧ wb = false ∧ s.cfg.cu128NonWB = .atomic64 then
        [.access va 8 dir .EL2 (el2Regime s) false,
          .access (va + 8#64) 8 dir .EL2 (el2Regime s) false]
      else [.access va size dir .EL2 (el2Regime s) false] := by
  unfold accessParts
  split <;> rfl

/-- Settles O47: the events of a completed access are its parts, one operation and the profiling record. -/
theorem transformedAccessEvents : Obligations.TransformedAccessEvents := by
  intro s i off size dir pa wb hi hacc
  obtain ⟨n, hn⟩ := vncrAccess_completes hacc
  obtain ⟨t, hrun, hevents, -⟩ := exec_of_completes hi hn
  refine ⟨t, hrun, ?_⟩
  rw [hevents, vncrEvents, accessParts_events]
  rfl

end Sys2Proof.Proofs
end

section
/-! PROOFS. Transformed accesses that meet an event (R205 to R212, R227 to R232): Data Abort, synchronous
External abort, watchpoint and halting. -/

namespace Sys2Proof.Proofs

open Sys2Proof Sys2Proof.Machine

/-! ## The access that stops -/

/-- An access of any form that stops leaves what the event left, and the profiling record (R234). -/
theorem exec_of_stops {s t : State} {i : Instr} {off : BitVec 12} {size : Nat} {dir : Dir}
    (hi : TransformsTo s i off size dir) (h : vncrAccess s off size dir = .stops t) :
    exec i s = .next (t.record (profileRecord s off)) := by
  rcases hi with ⟨e, rt, rfl, rfl, rfl, hc⟩ | ⟨e, rt, rfl, rfl, rfl, hc⟩ |
    ⟨e, rt, rfl, rfl, rfl, hc⟩ | ⟨e, rt, rfl, rfl, rfl, hc⟩
  · simp only [exec_mrs, execMrs, hc, vncrRead, h]
  · simp only [exec_msr, execMsr, hc, vncrWrite, h]
  · simp only [exec_mrrs, execMrrs, hc, vncrRead, h]
  · simp only [exec_msrr, execMsrr, hc, vncrWrite, h]

/-- Only an access from EL1 is transformed (R155). -/
theorem el_of_classify {s : State} {r : RegName} {dir : Dir} {b : Bool} {o : AccessOutcome}
    (h : classifyRegAccess s r dir b = o) (ho : o ≠ .unchanged) : s.pstate.el = .EL1 := by
  by_contra hn
  exact ho (h.symm.trans (classifyRegAccess_of_inactive (.inl hn) r dir b))

theorem el_of_transformsTo {s : State} {i : Instr} {off : BitVec 12} {size : Nat} {dir : Dir}
    (hi : TransformsTo s i off size dir) : s.pstate.el = .EL1 := by
  rcases hi with ⟨e, rt, -, -, -, hc⟩ | ⟨e, rt, -, -, -, hc⟩ | ⟨e, rt, -, -, -, hc⟩ |
    ⟨e, rt, -, -, -, hc⟩ <;> exact el_of_classify hc (by simp)

/-- An exception to EL2 that stops a transformed access, after any number of draws, is the entry of R213
with the profiling record. -/
theorem takeException_stops_entersEL2 (x : Exc) {s : State} (hw : RegStore.wf s.regs = true)
    (hel : s.pstate.el = .EL1) (ht : x.target = .EL2) {ec : BitVec 6} {dir : Dir} {fsc : BitVec 6}
    (hs : x.syndrome = .value ec (issVncr dir fsc)) (hr : x.ret = s.pc) (hv : x.vector = .standard)
    (n : Nat) (off : BitVec 12) :
    EntersEL2 ec (issOfVncrFault dir fsc) (profiledAt s off)
      ((takeException x (s.drawn n)).record (profileRecord s off)) := by
  rw [issVncr_eq] at hs
  have henter : EntersEL2 ec (issOfVncrFault dir fsc) s (takeException x (s.drawn n)) :=
    takeException_entersEL2 x (s := s.drawn n) hw hel ht hs hr hv
  exact entersEL2_profiled off henter

/-- The entry with an address puts it in FAR_EL2 (R205, R231). -/
theorem faultToEL2_stops {s : State} (hw : RegStore.wf s.regs = true) (hel : s.pstate.el = .EL1)
    (ec : BitVec 6) (dir : Dir) (fsc : BitVec 6) (a : Word) (n : Nat) (off : BitVec 12) :
    EntersEL2 ec (issOfVncrFault dir fsc) (profiledAt s off)
        ((faultToEL2 ec (issVncr dir fsc) a (s.drawn n)).record (profileRecord s off)) ∧
      ((faultToEL2 ec (issVncr dir fsc) a (s.drawn n)).record (profileRecord s off)).reg
        ⟨.FAR, .EL2, 0⟩ = a := by
  refine ⟨takeException_stops_entersEL2 _ hw hel rfl rfl rfl rfl n off, ?_⟩
  have hl : excTarget .EL2 (s.drawn n).pstate.el = .EL2 := by
    rw [State.drawn_pstate, hel]
    rfl
  have hwn : RegStore.wf (s.drawn n).regs = true := by rwa [State.drawn_regs]
  exact takeException_FAR (q := .EL2) _ hwn hl rfl rfl

/-- Settles O48: a fault of the walk and a lack of permission are the Data Abort of R205. -/
theorem transformedAccessDataAbort : Obligations.TransformedAccessDataAbort := by
  rintro s i off size dir ⟨-, hwf, -⟩ hi
  have hel := el_of_transformsTo hi
  refine ⟨fun fsc hx => ?_, fun pa p level wb ea hx hp => ?_⟩
  · exact ⟨_, exec_of_stops hi (vncrAccess_fault hx),
      faultToEL2_stops hwf hel 0x25#6 dir fsc (vncrAddress s off) 0 off⟩
  · exact ⟨_, exec_of_stops hi (vncrAccess_denied hx hp),
      faultToEL2_stops hwf hel 0x25#6 dir (permissionFault level) (vncrAddress s off) 0 off⟩

/-! ## Watchpoints and External aborts -/

section Permitted
variable {s : State} {off : BitVec 12} {size : Nat} {dir : Dir} {pa : Nat} {p : Perms}
  {level : BitVec 2} {wb ea : Bool}
  (hx : translate s (el2Regime s) false (vncrAddress s off) = .ok pa p level wb ea)
  (hp : dataPermitted p true false dir = true)
include hx hp

/-- With no hit an access meets the External abort or completes. -/
theorem vncrAccess_of_no_hit
    (hno : (vncrWatchpoint s (vncrAddress s off) size dir s.dbg.watchpoints).1 = none) :
    ∃ n, vncrAccess s off size dir =
      if ea = true then .stops (externalAbort (s.drawn n) dir) else .completes pa wb (s.drawn n) := by
  obtain ⟨⟨n, hn⟩, -⟩ := vncrWatchpoint_spec (vncrAddress s off) size dir s.dbg.watchpoints s
  refine ⟨n, ?_⟩
  simp only [vncrAccess, hx, hp, if_true, hno, hn, Option.bind_none]

/-- A hit that is an event stops the access before anything else. -/
theorem vncrAccess_of_hit {a : Word} {u : Nat → State}
    (hhit : (vncrWatchpoint s (vncrAddress s off) size dir s.dbg.watchpoints).1 = some a)
    (hevent : ∀ n, watchpointEvent (s.drawn n) a dir = some (u n)) :
    ∃ n, vncrAccess s off size dir = .stops (u n) := by
  obtain ⟨⟨n, hn⟩, -⟩ := vncrWatchpoint_spec (vncrAddress s off) size dir s.dbg.watchpoints s
  refine ⟨n, ?_⟩
  simp only [vncrAccess, hx, hp, if_true, hhit, hn, Option.bind_some, hevent]

end Permitted

theorem watchpointEvent_exception {s : State} (hlock : s.dbg.osLockUnlocked = true)
    (hhalt : (s.dbg.hde && s.dbg.haltingAllowed) = false)
    (hdbg : s.dbg.debugExceptionsEL2 = true) (a : Word) (dir : Dir) (n : Nat) :
    watchpointEvent (s.drawn n) a dir =
      some (faultToEL2 0x35#6 (issVncr dir 0b100010#6) a (s.drawn n)) := by
  simp [watchpointEvent, hlock, hdbg, hhalt]

theorem watchpointEvent_halts {s : State} (hlock : s.dbg.osLockUnlocked = true)
    (hhde : s.dbg.hde = true) (hhalt : s.dbg.haltingAllowed = true) (a : Word) (dir : Dir) (n : Nat) :
    watchpointEvent (s.drawn n) a dir =
      some { s.drawn n with dbg := { s.dbg with halted := true } } := by
  simp [watchpointEvent, hlock, hhde, hhalt]

/-- The exception of an External abort taken to EL2 (R211, R212). -/
theorem externalAbort_to_EL2 {s : State} (h : (s.cfg.haveEL3 && s.cfg.eaToEL3) = false) (n : Nat)
    (dir : Dir) :
    externalAbort (s.drawn n) dir = takeException
      { target := .EL2, syndrome := .value 0x25#6 (issVncr dir 0b010000#6), far := .unstated,
        ret := s.pc } (s.drawn n) :=
  if_neg (Bool.eq_false_iff.1 h)

/-- The exception of an External abort taken to EL3, of whose syndrome only VNCR is stated (R212). -/
def externalAbortEL3 (s : State) : Exc where
  target := .EL3
  syndrome := .onlyVncr
  far := .unstated
  ret := s.pc
  vector := .unstated

theorem externalAbort_to_EL3 {s : State} (h : (s.cfg.haveEL3 && s.cfg.eaToEL3) = true) (n : Nat)
    (dir : Dir) :
    externalAbort (s.drawn n) dir = takeException (externalAbortEL3 s) (s.drawn n) := if_pos h

/-- VNCR is bit 13 of the syndrome (R209). -/
theorem esrAfter_onlyVncr (s : State) : (esrAfter s .onlyVncr).getLsbD 13 = true := by
  rw [esrAfter, BitVec.getLsbD_or]
  exact Bool.or_true _

theorem externalAbortEL3_spec {s : State} (hw : RegStore.wf s.regs = true) (n : Nat) :
    (takeException (externalAbortEL3 s) (s.drawn n)).pstate.el = .EL3 ∧
      ((takeException (externalAbortEL3 s) (s.drawn n)).reg ⟨.ESR, .EL3, 0⟩).getLsbD 13 = true ∧
      KeepsRegsBut [⟨.ESR, .EL3, 0⟩, ⟨.FAR, .EL3, 0⟩, ⟨.ELR, .EL3, 0⟩, ⟨.SPSR, .EL3, 0⟩] s
        (takeException (externalAbortEL3 s) (s.drawn n)) := by
  have hl : excTarget .EL3 (s.drawn n).pstate.el = .EL3 := excTarget_EL3 _
  refine ⟨hl, ?_, fun r hr => ?_⟩
  · have hesr := takeException_ESR (externalAbortEL3 s) (s := s.drawn n) hw hl (q := .EL3) rfl
    rw [hesr]
    exact esrAfter_onlyVncr _
  · simp only [List.mem_cons, List.not_mem_nil, or_false, not_or] at hr
    obtain ⟨hesr, hfar, helr, hspsr⟩ := hr
    have hl' : excTarget (externalAbortEL3 s).target (s.drawn n).pstate.el = .EL3 := hl
    exact takeException_reg128_other (externalAbortEL3 s) (s.drawn n) (by rw [hl']; exact hesr)
      (.inl (by rw [hl']; exact hfar)) (by rw [hl']; exact helr) (by rw [hl']; exact hspsr)

/-- Settles O49: with no hit the abort is taken, to EL2 or to EL3. -/
theorem transformedAccessExternalAbort : Obligations.TransformedAccessExternalAbort := by
  rintro s i off size dir pa p level wb ⟨-, hwf, -⟩ hi hx hp hno
  obtain ⟨n, hn⟩ := vncrAccess_of_no_hit (size := size) hx hp (vncrWatchpoint_none s hno)
  rw [if_pos rfl] at hn
  have hrun := exec_of_stops hi hn
  refine ⟨fun hel2 => ?_, fun hel3 => ?_⟩
  · rw [externalAbort_to_EL2 hel2] at hrun
    exact ⟨_, hrun, takeException_stops_entersEL2 _ hwf (el_of_transformsTo hi) rfl rfl rfl rfl n off⟩
  · rw [externalAbort_to_EL3 hel3] at hrun
    obtain ⟨hl, hesr, hregs⟩ := externalAbortEL3_spec hwf n
    refine ⟨_, hrun, hl, hesr, hregs, keepsGprs_takeException _ (s.drawn n),
      keepsMemory_takeException _ (s.drawn n), ?_⟩
    rw [State.record_events, takeException_events]
    rfl

/-- What a watchpoint that is hit while debug exceptions are enabled does (R230 to R232). -/
theorem exec_of_watchpointException {s : State} {i : Instr} {off : BitVec 12} {size : Nat} {dir : Dir}
    {pa : Nat} {p : Perms} {level : BitVec 2} {wb ea : Bool} {a : Word}
    (hw : RegStore.wf s.regs = true) (hi : TransformsTo s i off size dir)
    (hx : translate s (el2Regime s) false (vncrAddress s off) = .ok pa p level wb ea)
    (hp : dataPermitted p true false dir = true)
    (hhit : (vncrWatchpoint s (vncrAddress s off) size dir s.dbg.watchpoints).1 = some a)
    (hlock : s.dbg.osLockUnlocked = true) (hhalt : (s.dbg.hde && s.dbg.haltingAllowed) = false)
    (hdbg : s.dbg.debugExceptionsEL2 = true) :
    ∃ t, exec i s = .next t ∧
      EntersEL2 0x35#6 (issOfVncrFault dir 0b100010#6) (profiledAt s off) t ∧
      ∃ w ∈ s.dbg.watchpoints, watchpointMatches w (vncrAddress s off) size dir = true ∧
        t.reg ⟨.FAR, .EL2, 0⟩ ∈ watchedBytes w (vncrAddress s off) size := by
  obtain ⟨n, hn⟩ := vncrAccess_of_hit hx hp hhit
    (watchpointEvent_exception hlock hhalt hdbg a dir)
  obtain ⟨henter, hfar⟩ := faultToEL2_stops hw (el_of_transformsTo hi) 0x35#6 dir 0b100010#6 a n off
  obtain ⟨-, hspec⟩ := vncrWatchpoint_spec (vncrAddress s off) size dir s.dbg.watchpoints s
  obtain ⟨w, hmem, hmatch, hbyte⟩ := hspec a hhit
  exact ⟨_, exec_of_stops hi hn, henter, w, hmem, hmatch, by rw [hfar]; exact hbyte⟩

/-- Settles O50: a watchpoint that is not linked is a hit, and a hit is the Watchpoint exception. -/
theorem transformedAccessWatchpointException :
    Obligations.TransformedAccessWatchpointException := by
  rintro s i off size dir pa p level wb ea w ⟨-, hwf, -⟩ hi hx hp hmem hmatch hlink hlock hhalt hdbg
  obtain ⟨a, hhit⟩ := vncrWatchpoint_some s hmem hmatch hlink
  exact exec_of_watchpointException hwf hi hx hp hhit hlock hhalt hdbg

/-- Settles O51: the hit halts the PE, and the next step is the fault of Debug state. -/
theorem transformedAccessWatchpointHalts : Obligations.TransformedAccessWatchpointHalts := by
  intro s i off size dir pa p level wb ea w hi hx hp hmem hmatch hlink hlock hhde hhalt
  obtain ⟨a, hhit⟩ := vncrWatchpoint_some s hmem hmatch hlink
  obtain ⟨n, hn⟩ := vncrAccess_of_hit hx hp hhit (watchpointEvent_halts hlock hhde hhalt a dir)
  exact ⟨_, exec_of_stops hi hn, rfl, if_pos rfl⟩

/-- Settles O52: the linked watchpoints give a hit or none, and with none the access completes. -/
theorem linkedWatchpointMatchesOrNot : Obligations.LinkedWatchpointMatchesOrNot := by
  rintro s i off size dir pa p level wb w ⟨hmem, hwf, -⟩ hok hi hx hp - - - hlock hhalt hdbg
  cases hhit : (vncrWatchpoint s (vncrAddress s off) size dir s.dbg.watchpoints).1 with
  | some a =>
    obtain ⟨t, hrun, hevent⟩ := exec_of_watchpointException hwf hi hx hp hhit hlock hhalt hdbg
    exact ⟨t, hrun, .inl hevent⟩
  | none =>
    obtain ⟨n, hn⟩ := vncrAccess_of_no_hit hx hp hhit
    rw [if_neg (by simp)] at hn
    obtain ⟨t, hrun, -, hmoves, hregs, hcont⟩ := exec_of_completes hi hn
    exact ⟨t, hrun, .inr ⟨hmoves hmem hok, hregs, hcont⟩⟩

end Sys2Proof.Proofs
end

section
/-! PROOFS. AT and TLBI operations that nothing traps (R78, R110, R118, R138). -/

namespace Sys2Proof.Proofs

open Sys2Proof Sys2Proof.Machine

/-- The operation fields of a word of format SYS lie above Rt (R73). -/
theorem sysOpOfWord_sysWord (base : BitVec 32) (rt : BitVec 5) :
    sysOpOfWord (sysWord base rt) = sysOpOfWord base := by
  simp only [sysOpOfWord, extractLsb'_sysWord base rt, Nat.reduceLeDiff]

theorem baseSysGate_eq_none {s : State} {lowest : EL} {op : SysOp}
    (hlevel : ¬ s.pstate.el.num < lowest.num) (hother : otherTrap s (.sys op) = none)
    (rt : BitVec 5) : baseSysGate s true lowest op rt = none := by
  simp only [baseSysGate, Bool.not_true, Bool.false_eq_true, if_false, if_neg hlevel, hother]

/-! ## TLBI -/

theorem tlbiTrapped_of_ne {s : State} (h : s.pstate.el ≠ .EL1) (b : Bool) :
    tlbiTrapped s b = false := by
  have hu : underEL2 s = false :=
    Bool.eq_false_iff.2 fun hu => h ((underEL2_iff s).1 hu).1
  simp only [tlbiTrapped, hu, Bool.false_and]

/-- Settles O58: no trap is due above EL1, and an operation that completes takes pairs at most. -/
theorem tlbMaintenanceCompletes : Obligations.TlbMaintenanceCompletes := by
  rintro s i n htlbi hmet hel hother
  obtain ⟨base, rt, -, hword, hrun⟩ := exec_tlbi htlbi s
  rw [hword, sysOpOfWord_sysWord] at hother
  have hel1 : s.pstate.el ≠ .EL1 := by rcases hel with h | h <;> rw [h] <;> decide
  have hlevel : ¬ s.pstate.el.num < EL.EL2.num := by rcases hel with h | h <;> rw [h] <;> decide
  obtain ⟨held, k, hinv, hsub⟩ := invalidate_spec s
  refine ⟨(invalidate s).advance, ?_, ?_⟩
  · simp only [hrun, tlbMaintenance, tlbiTrapped_of_ne hel1, (tlbiPresent_iff n s.cfg).2 hmet,
      baseSysGate_eq_none hlevel hother, Bool.false_eq_true, if_false]
  · rw [hinv]
    exact ⟨fun p hp => hsub.subset hp, rfl, rfl, rfl, rfl, fun _ _ => rfl, fun _ _ => rfl,
      fun _ => rfl, rfl, rfl, rfl, rfl⟩

/-! ## AT -/

/-- Only S1E1RP, S1E1WP and the two operations of FEAT_ATS1A need a feature (R78). -/
theorem atPresent_iff (c : Config) (op : AtOp) :
    atPresent c op = true ↔ (op ∈ [AtOp.S1E1RP, .S1E1WP] → c.havePAN2 = true) ∧
      (op ∈ [AtOp.S1E2A, .S1E1A] → c.haveATS1A = true) := by
  cases op <;> simp [atPresent]

/-- The operations of R111 to R117 need EL2, the others EL1 (R78). -/
theorem not_lt_atLowest {op : AtOp} {l : EL} (h0 : l ≠ .EL0)
    (h1 : op ∈ [AtOp.S1E2R, .S1E2W, .S12E1R, .S12E1W, .S12E0R, .S12E0W, .S1E2A] → l ≠ .EL1) :
    ¬ l.num < (atLowest op).num := by
  cases l with
  | EL0 => exact absurd rfl h0
  | EL1 =>
    have hop := fun h => h1 h rfl
    cases op <;> simp_all [atLowest]
  | EL2 => cases op <;> decide
  | EL3 => cases op <;> decide

theorem atStage2_eq_false {op : AtOp} (h : op ∉ [AtOp.S12E1R, .S12E1W, .S12E0R, .S12E0W]) :
    atStage2 op = false := by
  cases op <;> simp_all [atStage2]

/-- The bit that is put is the bit that is read. -/
theorem putBit_getLsbD_zero (v : Word) (b : Bool) : (putBit v 0 b).getLsbD 0 = b := by
  simp [putBit]

/-- What an AT operation that completes keeps: all but PAR_EL1 (R138). -/
theorem translateToPAR_frame (s : State) (op : AtOp) (va : Word) :
    KeepsRegsBut [⟨.PAR, .EL1, 0⟩] s (translateToPAR s op va).advance ∧
      KeepsGprsBut [] s (translateToPAR s op va).advance ∧
      KeepsMemory s (translateToPAR s op va).advance ∧
      Continues s (translateToPAR s op va).advance ∧
      (translateToPAR s op va).advance.events = s.events := by
  obtain ⟨v, n, hp⟩ := translateToPAR_spec s op va
  rw [hp]
  refine ⟨fun q hq => ?_, fun k _ => ?_, fun a => ?_, ?_, ?_⟩
  · exact State.reg128_setReg128_other s (by simpa using hq : storageName q ≠ ⟨.PAR, .EL1, 0⟩) v
  · simp [State.x]
  · simp
  · simp [Continues, KeepsSurroundings]
  · simp

/-- With no older pair in a TLB, bit 0 of PAR_EL1 is the fault of stage 1 (assumption 23). -/
theorem translateToPAR_fault {s : State} (hw : RegStore.wf s.regs = true) {op : AtOp}
    (hheld : s.tlbHeldNV = []) (hstage : atStage2 op = false) (va : Word) :
    ((translateToPAR s op va).reg ⟨.PAR, .EL1, 0⟩).getLsbD 0 =
      stage1Faults s op (decide (atRegime s op = .el10) && nv1Active s) va := by
  simp only [translateToPAR, regimeReading_of_nil hheld, hstage, Bool.false_and, Bool.or_false]
  rw [State.reg_store64_same (by rwa [State.drawn_regs]), putBit_getLsbD_zero]

/-- Settles O57: an operation that nothing traps is the translation of the base architecture. -/
theorem addressTranslationWritesPAR : Obligations.AddressTranslationWritesPAR := by
  rintro s i op hat ⟨-, hw, -⟩ htrap hpan hats hel0 hel1 hother
  obtain ⟨base, rt, hbase, hword, hrun⟩ := exec_at hat s
  rw [hword, sysOpOfWord_sysWord] at hother
  obtain ⟨hregs, hgprs, hmem, hcont, hevents⟩ := translateToPAR_frame s op (s.x rt)
  refine ⟨(translateToPAR s op (s.x rt)).advance, ?_, hregs, hgprs, hmem, hcont, hevents,
    fun hheld hop => ?_⟩
  · simp only [hrun, addressTranslation, htrap, (atPresent_iff s.cfg op).2 ⟨hpan, hats⟩,
      baseSysGate_eq_none (not_lt_atLowest hel0 hel1) hother, Bool.false_eq_true, if_false]
  · have hrt : rtOf (sysWord base rt) = rt := extractLsb'_sysWord_rt hbase.1 rt
    rw [hword, hrt]
    exact translateToPAR_fault hw hheld (atStage2_eq_false hop) (s.x rt)

end Sys2Proof.Proofs
end
